-- ==== Sys2Proof/Word.lean ====
section
/-! DEFINITION. The two data types of the core (00_scope.md R7): an 8-bit byte and a 16-bit word. -/

namespace Sys2Proof

/-- A byte, bits 7 to 0 (R7, R10). -/
abbrev Byte := BitVec 8

/-- A word, bits 15 to 0 (R7, R10); also an offset inside a 64K-byte segment (R80). -/
abbrev Word := BitVec 16

end Sys2Proof
end

