-- ==== Sys2Proof/Syntax.lean ====
section
/-! DEFINITION. The abstract syntax: register names, addressing modes, register lists, and the one inductive `Instr` with one
constructor per row of spec/opcode_table.json. Operands are the fields of the encoding (00_scope.md R12, R13): a relative
jump carries its displacement, a shift its width code (width - 1), a prefix operand the whole prefix. -/

namespace Sys2Proof

/-- Extended local registers ER0 to ER3 (R12). -/
inductive ER where
  | er0 | er1 | er2 | er3
deriving DecidableEq, Repr

/-- Pointing registers PR0 to PR3 (R12). -/
inductive PR where
  | x1 | x2 | dp | usp
deriving DecidableEq, Repr

/-- Local registers R0 to R7 (R12). -/
inductive R8 where
  | r0 | r1 | r2 | r3 | r4 | r5 | r6 | r7
deriving DecidableEq, Repr

/-- The base register of n7 addressing (R142). -/
inductive N7Base where
  | dp | usp
deriving DecidableEq, Repr

/-- The memory addressing modes of 30_encoding.md R140 and R141. -/
inductive Mode where
  /-- `[X1]`. -/
  | x1
  /-- `[DP-]`. -/
  | dpDec
  /-- `[DP]`. -/
  | dp
  /-- `[DP+]`. -/
  | dpInc
  /-- `fix`: 0200H + fix8. -/
  | fix (a : Byte)
  /-- `off`: LRBH*100H + off8. -/
  | off (a : Byte)
  /-- `sfr`: sfr8. -/
  | sfr (a : Byte)
  /-- `dir`. -/
  | dir (w : Word)
  /-- `D16[X1]`. -/
  | d16x1 (d : Word)
  /-- `D16[X2]`. -/
  | d16x2 (d : Word)
  /-- `[X1+A]`. -/
  | x1A
  /-- `[X1+R0]`. -/
  | x1R0
  /-- `n7[DP]`. -/
  | n7dp (n : BitVec 7)
  /-- `n7[USP]`. -/
  | n7usp (n : BitVec 7)
deriving DecidableEq, Repr

/-- The word operand `**` of a word prefix (R140). -/
inductive WOp where
  | acc
  | er (n : ER)
  | pr (n : PR)
  | mem (m : Mode)
deriving DecidableEq, Repr

/-- The byte operand `*` of a byte prefix (R141). -/
inductive BOp where
  | acc
  | r (n : R8)
  | pswl
  | pswh
  | mem (m : Mode)
deriving DecidableEq, Repr

/-- A register list of PUSHS and POPS: registers of one group (41_stack.md R240). -/
inductive RegList where
  /-- Some of ER0, ER1, ER2, ER3. -/
  | er (er0 er1 er2 er3 : Bool)
  /-- Some of X1, X2, DP, USP. -/
  | pr (x1 x2 dp usp : Bool)
  /-- Some of A, LRB, PSW. -/
  | cr (a lrb psw : Bool)
deriving DecidableEq, Repr

/-- The instructions, one constructor per row of spec/opcode_table.json. The constructors `pfx...` are the prefix rows: that
prefix followed by a suffix byte s that no rule lists (R165). -/
inductive Instr where
  /-- `L A,#N16`: F8 N16L N16H (R201). -/
  | lAImm (v : Word)
  /-- `L A,ERn`: 74+n (R202). -/
  | lAEr (n : ER)
  /-- `L A,PRn`: 70+n (R203). -/
  | lAPr (n : PR)
  /-- `L A,[X1]`: 80 (R204). -/
  | lAX1
  /-- `LB A,[X1]`: 90 (R207). -/
  | lbAX1
  /-- `L A,[DP-]`: 81 (R204). -/
  | lADpDec
  /-- `LB A,[DP-]`: 91 (R207). -/
  | lbADpDec
  /-- `L A,[DP]`: 82 (R204). -/
  | lADp
  /-- `LB A,[DP]`: 92 (R207). -/
  | lbADp
  /-- `L A,[DP+]`: 83 (R204). -/
  | lADpInc
  /-- `LB A,[DP+]`: 93 (R207). -/
  | lbADpInc
  /-- `L A,fix`: 84 fix8 (R204). -/
  | lAFix (a : Byte)
  /-- `LB A,fix`: 94 fix8 (R207). -/
  | lbAFix (a : Byte)
  /-- `L A,off`: 85 off8 (R204). -/
  | lAOff (a : Byte)
  /-- `LB A,off`: 95 off8 (R207). -/
  | lbAOff (a : Byte)
  /-- `L A,sfr`: 86 sfr8 (R204). -/
  | lASfr (a : Byte)
  /-- `LB A,sfr`: 96 sfr8 (R207). -/
  | lbASfr (a : Byte)
  /-- `L A,dir`: 87 dirL dirH (R204). -/
  | lADir (w : Word)
  /-- `LB A,dir`: 97 dirL dirH (R207). -/
  | lbADir (w : Word)
  /-- `L A,D16[X1]`: 88 D16L D16H (R204). -/
  | lAD16X1 (w : Word)
  /-- `LB A,D16[X1]`: 98 D16L D16H (R207). -/
  | lbAD16X1 (w : Word)
  /-- `L A,n7[USP] (b2[7]=0) / n7[DP] (b2[7]=1)`: 89 b2 (R204). -/
  | lAN7 (b : N7Base) (n : BitVec 7)
  /-- `LB A,n7[USP] (b2[7]=0) / n7[DP] (b2[7]=1)`: 99 b2 (R207). -/
  | lbAN7 (b : N7Base) (n : BitVec 7)
  /-- `LB A,#N8`: F9 N8 (R205). -/
  | lbAImm (v : Byte)
  /-- `LB A,Rn`: 78+n (R206). -/
  | lbAR (n : R8)
  /-- `ST A,ERn`: 38+n (R208). -/
  | stAEr (n : ER)
  /-- `ST A,PRn`: 3C+n (R208). -/
  | stAPr (n : PR)
  /-- `STB A,Rn`: 38+n (n 0-7) (R211). -/
  | stbAR (n : R8)
  /-- `ST A,[X1]`: 30 (R209). -/
  | stAX1
  /-- `STB A,[X1]`: 30 (R212). -/
  | stbAX1
  /-- `ST A,[DP-]`: 31 (R209). -/
  | stADpDec
  /-- `STB A,[DP-]`: 31 (R212). -/
  | stbADpDec
  /-- `ST A,[DP]`: 32 (R209). -/
  | stADp
  /-- `STB A,[DP]`: 32 (R212). -/
  | stbADp
  /-- `ST A,[DP+]`: 33 (R209). -/
  | stADpInc
  /-- `STB A,[DP+]`: 33 (R212). -/
  | stbADpInc
  /-- `ST A,fix`: 34 fix8 (R209). -/
  | stAFix (a : Byte)
  /-- `STB A,fix`: 34 fix8 (R212). -/
  | stbAFix (a : Byte)
  /-- `ST A,off`: 35 off8 (R209). -/
  | stAOff (a : Byte)
  /-- `STB A,off`: 35 off8 (R212). -/
  | stbAOff (a : Byte)
  /-- `ST A,sfr`: 36 sfr8 (R209). -/
  | stASfr (a : Byte)
  /-- `STB A,sfr`: 36 sfr8 (R212). -/
  | stbASfr (a : Byte)
  /-- `ST A,dir`: 37 dirL dirH (R209). -/
  | stADir (w : Word)
  /-- `STB A,dir`: 37 dirL dirH (R212). -/
  | stbADir (w : Word)
  /-- `ST A,D16[X1]`: C8 D16L D16H (R209). -/
  | stAD16X1 (w : Word)
  /-- `STB A,D16[X1]`: C8 D16L D16H (R212). -/
  | stbAD16X1 (w : Word)
  /-- `ST A,n7[USP] (b2[7]=0) / n7[DP] (b2[7]=1)`: C9 b2 (R209). -/
  | stAN7 (b : N7Base) (n : BitVec 7)
  /-- `STB A,n7[USP] (b2[7]=0) / n7[DP] (b2[7]=1)`: C9 b2 (R212). -/
  | stbAN7 (b : N7Base) (n : BitVec 7)
  /-- `ST A,D16[X2]`: BC 99 D16L D16H (R210). -/
  | stAD16X2 (w : Word)
  /-- `STB A,D16[X2]`: BC 99 D16L D16H (R213). -/
  | stbAD16X2 (w : Word)
  /-- `MOV PRn,#N16`: 20+n N16L N16H (R214). -/
  | movPrImm (n : PR) (v : Word)
  /-- `MOV ERn,#N16`: 24+n N16L N16H (R214). -/
  | movErImm (n : ER) (v : Word)
  /-- `MOV sfr,#N16`: C6 sfr8 N16L N16H (R215). -/
  | movSfrImm (a : Byte) (v : Word)
  /-- `MOV off,#N16`: C7 off8 N16L N16H (R215). -/
  | movOffImm (a : Byte) (v : Word)
  /-- `MOVB Rn,#N8`: 10+n N8 (R221). -/
  | movbRImm (n : R8) (v : Byte)
  /-- `MOVB sfr,#N8`: D6 sfr8 N8 (R222). -/
  | movbSfrImm (a : Byte) (v : Byte)
  /-- `MOVB off,#N8`: D7 off8 N8 (R222). -/
  | movbOffImm (a : Byte) (v : Byte)
  /-- `CLR A`: FA (R228). -/
  | clrA
  /-- `CLRB A`: FB (R230). -/
  | clrbA
  /-- `SWAP`: DF (R238). -/
  | swap
  /-- `MOV A,**`: <word> 97 (R216). -/
  | movAW (p : WOp)
  /-- `MOV ERn,**`: <word> 70+n (R217). -/
  | movErW (n : ER) (p : WOp)
  /-- `MOV PRn,**`: <word> 74+n (R217). -/
  | movPrW (n : PR) (p : WOp)
  /-- `MOV fix,**`: <word> 86 fix8 (R218). -/
  | movFixW (a : Byte) (p : WOp)
  /-- `MOV off,**`: <word> 87 off8 (R218). -/
  | movOffW (a : Byte) (p : WOp)
  /-- `MOV [X1],**`: <word> 88 (R218). -/
  | movX1W (p : WOp)
  /-- `MOV [DP-],**`: <word> 89 (R218). -/
  | movDpDecW (p : WOp)
  /-- `MOV [DP],**`: <word> 8A (R218). -/
  | movDpW (p : WOp)
  /-- `MOV [DP+],**`: <word> 8B (R218). -/
  | movDpIncW (p : WOp)
  /-- `MOV sfr,**`: <word> 96 sfr8 (R218). -/
  | movSfrW (a : Byte) (p : WOp)
  /-- `MOV D16[X1],**`: <word> 98 D16L D16H (R218). -/
  | movD16X1W (w : Word) (p : WOp)
  /-- `MOV D16[X2],**`: <word> 99 D16L D16H (R218). -/
  | movD16X2W (w : Word) (p : WOp)
  /-- `MOV n7[DP] (b[7]=0) / n7[USP] (b[7]=1),**`: <word> 9A b (R218). -/
  | movN7W (b : N7Base) (n : BitVec 7) (p : WOp)
  /-- `MOV dir,**`: <word> 9B dirL dirH (R218). -/
  | movDirW (w : Word) (p : WOp)
  /-- `MOV [X1+A],**`: <word> F8 (R218). -/
  | movX1AW (p : WOp)
  /-- `MOV [X1+R0],**`: <word> F9 (R218). -/
  | movX1R0W (p : WOp)
  /-- `MOV **,A`: <word> AA (R219). -/
  | movWA (p : WOp)
  /-- `MOV **,#N16`: <word> AB N16L N16H (R220). -/
  | movWImm (p : WOp) (v : Word)
  /-- `MOVB A,*`: <byte> 97 (R223). -/
  | movbAB (p : BOp)
  /-- `MOVB Rn,*`: <byte> 70+n (R224). -/
  | movbRB (n : R8) (p : BOp)
  /-- `MOVB fix,*`: <byte> 86 fix8 (R225). -/
  | movbFixB (a : Byte) (p : BOp)
  /-- `MOVB off,*`: <byte> 87 off8 (R225). -/
  | movbOffB (a : Byte) (p : BOp)
  /-- `MOVB [X1],*`: <byte> 88 (R225). -/
  | movbX1B (p : BOp)
  /-- `MOVB [DP-],*`: <byte> 89 (R225). -/
  | movbDpDecB (p : BOp)
  /-- `MOVB [DP],*`: <byte> 8A (R225). -/
  | movbDpB (p : BOp)
  /-- `MOVB [DP+],*`: <byte> 8B (R225). -/
  | movbDpIncB (p : BOp)
  /-- `MOVB sfr,*`: <byte> 96 sfr8 (R225). -/
  | movbSfrB (a : Byte) (p : BOp)
  /-- `MOVB D16[X1],*`: <byte> 98 D16L D16H (R225). -/
  | movbD16X1B (w : Word) (p : BOp)
  /-- `MOVB D16[X2],*`: <byte> 99 D16L D16H (R225). -/
  | movbD16X2B (w : Word) (p : BOp)
  /-- `MOVB n7[DP] (b[7]=0) / n7[USP] (b[7]=1),*`: <byte> 9A b (R225). -/
  | movbN7B (b : N7Base) (n : BitVec 7) (p : BOp)
  /-- `MOVB dir,*`: <byte> 9B dirL dirH (R225). -/
  | movbDirB (w : Word) (p : BOp)
  /-- `MOVB [X1+A],*`: <byte> F8 (R225). -/
  | movbX1AB (p : BOp)
  /-- `MOVB [X1+R0],*`: <byte> F9 (R225). -/
  | movbX1R0B (p : BOp)
  /-- `MOVB *,A`: <byte> AA (R226). -/
  | movbBA (p : BOp)
  /-- `MOVB *,#N8`: <byte> AB N8 (R227). -/
  | movbBImm (p : BOp) (v : Byte)
  /-- `CLR **`: <word> C7 (R229). -/
  | clrW (p : WOp)
  /-- `CLRB *`: <byte> C7 (R231). -/
  | clrbB (p : BOp)
  /-- `FILL A`: BC D7 (R232). -/
  | fillA
  /-- `FILLB A`: BC D7 (R234). -/
  | fillbA
  /-- `FILL **`: <word> D7 (R233). -/
  | fillW (p : WOp)
  /-- `FILLB *`: <byte> D7 (R235). -/
  | fillbB (p : BOp)
  /-- `XCHG A,**`: <word> C8 (R236). -/
  | xchgAW (p : WOp)
  /-- `XCHGB A,*`: <byte> C8 (R237). -/
  | xchgbAB (p : BOp)
  /-- `PUSHS A`: 07 (next byte not 08/09) (R242). -/
  | pushsA
  /-- `PUSHS register_list`: 06 mask (R243). -/
  | pushs (l : RegList)
  /-- `POPS register_list`: 06 mask (R244). -/
  | pops (l : RegList)
  /-- `SLL A`: 8F (R252). -/
  | sllA
  /-- `SLLB A`: 8F (R254). -/
  | sllbA
  /-- `SLL A,width`: BC 8C+(width-1) (R252). -/
  | sllAWidth (k : Fin 4)
  /-- `SLLB A,width`: BC 8C+(width-1) (R254). -/
  | sllbAWidth (k : Fin 4)
  /-- `SLL **,width`: <word> 8C+(width-1) (R253). -/
  | sllWWidth (p : WOp) (k : Fin 4)
  /-- `SLLB *,width`: <byte> 8C+(width-1) (R255). -/
  | sllbBWidth (p : BOp) (k : Fin 4)
  /-- `SRL A`: 9F (R256). -/
  | srlA
  /-- `SRLB A`: 9F (R258). -/
  | srlbA
  /-- `SRL A,width`: BC 9C+(width-1) (R256). -/
  | srlAWidth (k : Fin 4)
  /-- `SRLB A,width`: BC 9C+(width-1) (R258). -/
  | srlbAWidth (k : Fin 4)
  /-- `SRL **,width`: <word> 9C+(width-1) (R257). -/
  | srlWWidth (p : WOp) (k : Fin 4)
  /-- `SRLB *,width`: <byte> 9C+(width-1) (R259). -/
  | srlbBWidth (p : BOp) (k : Fin 4)
  /-- `SRA A,width`: BC EC+(width-1) (R260). -/
  | sraAWidth (k : Fin 4)
  /-- `SRAB A,width`: BC EC+(width-1) (R262). -/
  | srabAWidth (k : Fin 4)
  /-- `SRA **,width`: <word> EC+(width-1) (R261). -/
  | sraWWidth (p : WOp) (k : Fin 4)
  /-- `SRAB *,width`: <byte> EC+(width-1) (R263). -/
  | srabBWidth (p : BOp) (k : Fin 4)
  /-- `ROL A`: AF (R264). -/
  | rolA
  /-- `ROLB A`: AF (R266). -/
  | rolbA
  /-- `ROL A,width`: BC AC+(width-1) (R264). -/
  | rolAWidth (k : Fin 4)
  /-- `ROLB A,width`: BC AC+(width-1) (R266). -/
  | rolbAWidth (k : Fin 4)
  /-- `ROL **,width`: <word> AC+(width-1) (R265). -/
  | rolWWidth (p : WOp) (k : Fin 4)
  /-- `ROLB *,width`: <byte> AC+(width-1) (R267). -/
  | rolbBWidth (p : BOp) (k : Fin 4)
  /-- `ROR A`: BF (R268). -/
  | rorA
  /-- `RORB A`: BF (R270). -/
  | rorbA
  /-- `ROR A,width`: BC BC+(width-1) (R268). -/
  | rorAWidth (k : Fin 4)
  /-- `RORB A,width`: BC BC+(width-1) (R270). -/
  | rorbAWidth (k : Fin 4)
  /-- `ROR **,width`: <word> BC+(width-1) (R269). -/
  | rorWWidth (p : WOp) (k : Fin 4)
  /-- `RORB *,width`: <byte> BC+(width-1) (R271). -/
  | rorbBWidth (p : BOp) (k : Fin 4)
  /-- `INC A`: CC (R281). -/
  | incA
  /-- `INCB A`: CC (R284). -/
  | incbA
  /-- `INC PRn`: 40+n (R282). -/
  | incPr (n : PR)
  /-- `INCB Rn (n 0-3)`: C0+n (R285). -/
  | incbR (n : Fin 4)
  /-- `INC **`: <word> C6 (R283). -/
  | incW (p : WOp)
  /-- `INCB *`: <byte> C6 (R286). -/
  | incbB (p : BOp)
  /-- `DEC A`: DC (R287). -/
  | decA
  /-- `DECB A`: DC (R290). -/
  | decbA
  /-- `DEC PRn`: 50+n (R288). -/
  | decPr (n : PR)
  /-- `DECB Rn (n 0-3)`: D0+n (R291). -/
  | decbR (n : Fin 4)
  /-- `DEC **`: <word> D6 (R289). -/
  | decW (p : WOp)
  /-- `DECB *`: <byte> D6 (R292). -/
  | decbB (p : BOp)
  /-- `ADD A,ERn`: 28+n (R296). -/
  | addAEr (n : ER)
  /-- `ADD A,PRn`: 2C+n (R296). -/
  | addAPr (n : PR)
  /-- `ADDB A,Rn`: 28+n (n 0-7) (R299). -/
  | addbAR (n : R8)
  /-- `ADD A,fix`: AC fix8 (R296). -/
  | addAFix (a : Byte)
  /-- `ADDB A,fix`: AC fix8 (R299). -/
  | addbAFix (a : Byte)
  /-- `ADD A,off`: AD off8 (R296). -/
  | addAOff (a : Byte)
  /-- `ADDB A,off`: AD off8 (R299). -/
  | addbAOff (a : Byte)
  /-- `ADD A,#N16`: AE N16L N16H (R296). -/
  | addAImm (v : Word)
  /-- `ADDB A,#N8`: AE N8 (R299). -/
  | addbAImm (v : Byte)
  /-- `ADD A,**`: <word> A5 (R297). -/
  | addAW (p : WOp)
  /-- `ADDB A,*`: <byte> A5 (R300). -/
  | addbAB (p : BOp)
  /-- `ADD **,fix`: <word> A0 fix8 (R298). -/
  | addWFix (p : WOp) (a : Byte)
  /-- `ADDB *,fix`: <byte> A0 fix8 (R301). -/
  | addbBFix (p : BOp) (a : Byte)
  /-- `ADD **,off`: <word> A1 off8 (R298). -/
  | addWOff (p : WOp) (a : Byte)
  /-- `ADDB *,off`: <byte> A1 off8 (R301). -/
  | addbBOff (p : BOp) (a : Byte)
  /-- `ADD **,sfr`: <word> A2 sfr8 (R298). -/
  | addWSfr (p : WOp) (a : Byte)
  /-- `ADDB *,sfr`: <byte> A2 sfr8 (R301). -/
  | addbBSfr (p : BOp) (a : Byte)
  /-- `ADD **,#N16`: <word> A3 N16L N16H (R298). -/
  | addWImm (p : WOp) (v : Word)
  /-- `ADDB *,#N8`: <byte> A3 N8 (R301). -/
  | addbBImm (p : BOp) (v : Byte)
  /-- `ADD **,A`: <word> A4 (R298). -/
  | addWA (p : WOp)
  /-- `ADDB *,A`: <byte> A4 (R301). -/
  | addbBA (p : BOp)
  /-- `ADC A,#N16`: BC F3 N16L N16H (R302). -/
  | adcAImm (v : Word)
  /-- `ADCB A,#N8`: BC F3 N8 (R305). -/
  | adcbAImm (v : Byte)
  /-- `ADC A,**`: <word> F5 (R303). -/
  | adcAW (p : WOp)
  /-- `ADCB A,*`: <byte> F5 (R306). -/
  | adcbAB (p : BOp)
  /-- `ADC **,fix`: <word> F0 fix8 (R304). -/
  | adcWFix (p : WOp) (a : Byte)
  /-- `ADCB *,fix`: <byte> F0 fix8 (R307). -/
  | adcbBFix (p : BOp) (a : Byte)
  /-- `ADC **,off`: <word> F1 off8 (R304). -/
  | adcWOff (p : WOp) (a : Byte)
  /-- `ADCB *,off`: <byte> F1 off8 (R307). -/
  | adcbBOff (p : BOp) (a : Byte)
  /-- `ADC **,sfr`: <word> F2 sfr8 (R304). -/
  | adcWSfr (p : WOp) (a : Byte)
  /-- `ADCB *,sfr`: <byte> F2 sfr8 (R307). -/
  | adcbBSfr (p : BOp) (a : Byte)
  /-- `ADC **,#N16`: <word> F3 N16L N16H (R304). -/
  | adcWImm (p : WOp) (v : Word)
  /-- `ADCB *,#N8`: <byte> F3 N8 (R307). -/
  | adcbBImm (p : BOp) (v : Byte)
  /-- `ADC **,A`: <word> F4 (R304). -/
  | adcWA (p : WOp)
  /-- `ADCB *,A`: <byte> F4 (R307). -/
  | adcbBA (p : BOp)
  /-- `SUB A,ERn`: 08+n (R308). -/
  | subAEr (n : ER)
  /-- `SUB A,PRn`: 0C+n (R308). -/
  | subAPr (n : PR)
  /-- `SUBB A,Rn`: 08+n (n 0-7) (R311). -/
  | subbAR (n : R8)
  /-- `SUB A,fix`: 8C fix8 (R308). -/
  | subAFix (a : Byte)
  /-- `SUBB A,fix`: 8C fix8 (R311). -/
  | subbAFix (a : Byte)
  /-- `SUB A,off`: 8D off8 (R308). -/
  | subAOff (a : Byte)
  /-- `SUBB A,off`: 8D off8 (R311). -/
  | subbAOff (a : Byte)
  /-- `SUB A,#N16`: 8E N16L N16H (R308). -/
  | subAImm (v : Word)
  /-- `SUBB A,#N8`: 8E N8 (R311). -/
  | subbAImm (v : Byte)
  /-- `SUB A,**`: <word> 85 (R309). -/
  | subAW (p : WOp)
  /-- `SUBB A,*`: <byte> 85 (R312). -/
  | subbAB (p : BOp)
  /-- `SUB **,fix`: <word> 80 fix8 (R310). -/
  | subWFix (p : WOp) (a : Byte)
  /-- `SUBB *,fix`: <byte> 80 fix8 (R313). -/
  | subbBFix (p : BOp) (a : Byte)
  /-- `SUB **,off`: <word> 81 off8 (R310). -/
  | subWOff (p : WOp) (a : Byte)
  /-- `SUBB *,off`: <byte> 81 off8 (R313). -/
  | subbBOff (p : BOp) (a : Byte)
  /-- `SUB **,sfr`: <word> 82 sfr8 (R310). -/
  | subWSfr (p : WOp) (a : Byte)
  /-- `SUBB *,sfr`: <byte> 82 sfr8 (R313). -/
  | subbBSfr (p : BOp) (a : Byte)
  /-- `SUB **,#N16`: <word> 83 N16L N16H (R310). -/
  | subWImm (p : WOp) (v : Word)
  /-- `SUBB *,#N8`: <byte> 83 N8 (R313). -/
  | subbBImm (p : BOp) (v : Byte)
  /-- `SUB **,A`: <word> 84 (R310). -/
  | subWA (p : WOp)
  /-- `SUBB *,A`: <byte> 84 (R313). -/
  | subbBA (p : BOp)
  /-- `SBC A,#N16`: BC E3 N16L N16H (R314). -/
  | sbcAImm (v : Word)
  /-- `SBCB A,#N8`: BC E3 N8 (R317). -/
  | sbcbAImm (v : Byte)
  /-- `SBC A,**`: <word> E5 (R315). -/
  | sbcAW (p : WOp)
  /-- `SBCB A,*`: <byte> E5 (R318). -/
  | sbcbAB (p : BOp)
  /-- `SBC **,fix`: <word> E0 fix8 (R316). -/
  | sbcWFix (p : WOp) (a : Byte)
  /-- `SBCB *,fix`: <byte> E0 fix8 (R319). -/
  | sbcbBFix (p : BOp) (a : Byte)
  /-- `SBC **,off`: <word> E1 off8 (R316). -/
  | sbcWOff (p : WOp) (a : Byte)
  /-- `SBCB *,off`: <byte> E1 off8 (R319). -/
  | sbcbBOff (p : BOp) (a : Byte)
  /-- `SBC **,sfr`: <word> E2 sfr8 (R316). -/
  | sbcWSfr (p : WOp) (a : Byte)
  /-- `SBCB *,sfr`: <byte> E2 sfr8 (R319). -/
  | sbcbBSfr (p : BOp) (a : Byte)
  /-- `SBC **,#N16`: <word> E3 N16L N16H (R316). -/
  | sbcWImm (p : WOp) (v : Word)
  /-- `SBCB *,#N8`: <byte> E3 N8 (R319). -/
  | sbcbBImm (p : BOp) (v : Byte)
  /-- `SBC **,A`: <word> E4 (R316). -/
  | sbcWA (p : WOp)
  /-- `SBCB *,A`: <byte> E4 (R319). -/
  | sbcbBA (p : BOp)
  /-- `CMP A,ERn`: 18+n (R320). -/
  | cmpAEr (n : ER)
  /-- `CMP A,PRn`: 1C+n (R320). -/
  | cmpAPr (n : PR)
  /-- `CMPB A,Rn`: 18+n (n 0-7) (R324). -/
  | cmpbAR (n : R8)
  /-- `CMP A,fix`: 9C fix8 (R320). -/
  | cmpAFix (a : Byte)
  /-- `CMPB A,fix`: 9C fix8 (R324). -/
  | cmpbAFix (a : Byte)
  /-- `CMP A,off`: 9D off8 (R320). -/
  | cmpAOff (a : Byte)
  /-- `CMPB A,off`: 9D off8 (R324). -/
  | cmpbAOff (a : Byte)
  /-- `CMP A,#N16`: 9E N16L N16H (R320). -/
  | cmpAImm (v : Word)
  /-- `CMPB A,#N8`: 9E N8 (R324). -/
  | cmpbAImm (v : Byte)
  /-- `CMP A,**`: <word> 95 (R321). -/
  | cmpAW (p : WOp)
  /-- `CMPB A,*`: <byte> 95 (R325). -/
  | cmpbAB (p : BOp)
  /-- `CMP **,fix`: <word> 90 fix8 (R322). -/
  | cmpWFix (p : WOp) (a : Byte)
  /-- `CMPB *,fix`: <byte> 90 fix8 (R326). -/
  | cmpbBFix (p : BOp) (a : Byte)
  /-- `CMP **,off`: <word> 91 off8 (R322). -/
  | cmpWOff (p : WOp) (a : Byte)
  /-- `CMPB *,off`: <byte> 91 off8 (R326). -/
  | cmpbBOff (p : BOp) (a : Byte)
  /-- `CMP **,sfr`: <word> 92 sfr8 (R322). -/
  | cmpWSfr (p : WOp) (a : Byte)
  /-- `CMPB *,sfr`: <byte> 92 sfr8 (R326). -/
  | cmpbBSfr (p : BOp) (a : Byte)
  /-- `CMP **,#N16`: <word> 93 N16L N16H (R322). -/
  | cmpWImm (p : WOp) (v : Word)
  /-- `CMPB *,#N8`: <byte> 93 N8 (R326). -/
  | cmpbBImm (p : BOp) (v : Byte)
  /-- `CMP **,A`: <word> 94 (R322). -/
  | cmpWA (p : WOp)
  /-- `CMPB *,A`: <byte> 94 (R326). -/
  | cmpbBA (p : BOp)
  /-- `CMP fix,#N16`: C4 fix8 N16L N16H (R323). -/
  | cmpFixImm (a : Byte) (v : Word)
  /-- `CMP off,#N16`: C5 off8 N16L N16H (R323). -/
  | cmpOffImm (a : Byte) (v : Word)
  /-- `CMPB fix,#N8`: D4 fix8 N8 (R327). -/
  | cmpbFixImm (a : Byte) (v : Byte)
  /-- `CMPB off,#N8`: D5 off8 N8 (R327). -/
  | cmpbOffImm (a : Byte) (v : Byte)
  /-- `NEG A`: CF (R328). -/
  | negA
  /-- `NEGB A`: CF (R329). -/
  | negbA
  /-- `MUL **`: <word> A9 (R330). -/
  | mulW (p : WOp)
  /-- `MULB *`: <byte> A9 (R331). -/
  | mulbB (p : BOp)
  /-- `SQR A`: BC A9 (R332). -/
  | sqrA
  /-- `SQRB A`: BC A9 (R333). -/
  | sqrbA
  /-- `DIV **`: <word> A8 (R334). -/
  | divW (p : WOp)
  /-- `DIVB *`: <byte> A8 (R335). -/
  | divbB (p : BOp)
  /-- `DIVQ **`: <word> FB (R336). -/
  | divqW (p : WOp)
  /-- `AND A,off`: BD off8 (R341). -/
  | andAOff (a : Byte)
  /-- `ANDB A,off`: BD off8 (R344). -/
  | andbAOff (a : Byte)
  /-- `AND A,#N16`: BE N16L N16H (R341). -/
  | andAImm (v : Word)
  /-- `ANDB A,#N8`: BE N8 (R344). -/
  | andbAImm (v : Byte)
  /-- `AND A,**`: <word> B5 (R342). -/
  | andAW (p : WOp)
  /-- `ANDB A,*`: <byte> B5 (R345). -/
  | andbAB (p : BOp)
  /-- `AND **,fix`: <word> B0 fix8 (R343). -/
  | andWFix (p : WOp) (a : Byte)
  /-- `ANDB *,fix`: <byte> B0 fix8 (R346). -/
  | andbBFix (p : BOp) (a : Byte)
  /-- `AND **,off`: <word> B1 off8 (R343). -/
  | andWOff (p : WOp) (a : Byte)
  /-- `ANDB *,off`: <byte> B1 off8 (R346). -/
  | andbBOff (p : BOp) (a : Byte)
  /-- `AND **,sfr`: <word> B2 sfr8 (R343). -/
  | andWSfr (p : WOp) (a : Byte)
  /-- `ANDB *,sfr`: <byte> B2 sfr8 (R346). -/
  | andbBSfr (p : BOp) (a : Byte)
  /-- `AND **,#N16`: <word> B3 N16L N16H (R343). -/
  | andWImm (p : WOp) (v : Word)
  /-- `ANDB *,#N8`: <byte> B3 N8 (R346). -/
  | andbBImm (p : BOp) (v : Byte)
  /-- `AND **,A`: <word> B4 (R343). -/
  | andWA (p : WOp)
  /-- `ANDB *,A`: <byte> B4 (R346). -/
  | andbBA (p : BOp)
  /-- `OR A,off`: CD off8 (R347). -/
  | orAOff (a : Byte)
  /-- `ORB A,off`: CD off8 (R350). -/
  | orbAOff (a : Byte)
  /-- `OR A,#N16`: CE N16L N16H (R347). -/
  | orAImm (v : Word)
  /-- `ORB A,#N8`: CE N8 (R350). -/
  | orbAImm (v : Byte)
  /-- `OR A,**`: <word> C5 (R348). -/
  | orAW (p : WOp)
  /-- `ORB A,*`: <byte> C5 (R351). -/
  | orbAB (p : BOp)
  /-- `OR **,fix`: <word> C0 fix8 (R349). -/
  | orWFix (p : WOp) (a : Byte)
  /-- `ORB *,fix`: <byte> C0 fix8 (R352). -/
  | orbBFix (p : BOp) (a : Byte)
  /-- `OR **,off`: <word> C1 off8 (R349). -/
  | orWOff (p : WOp) (a : Byte)
  /-- `ORB *,off`: <byte> C1 off8 (R352). -/
  | orbBOff (p : BOp) (a : Byte)
  /-- `OR **,sfr`: <word> C2 sfr8 (R349). -/
  | orWSfr (p : WOp) (a : Byte)
  /-- `ORB *,sfr`: <byte> C2 sfr8 (R352). -/
  | orbBSfr (p : BOp) (a : Byte)
  /-- `OR **,#N16`: <word> C3 N16L N16H (R349). -/
  | orWImm (p : WOp) (v : Word)
  /-- `ORB *,#N8`: <byte> C3 N8 (R352). -/
  | orbBImm (p : BOp) (v : Byte)
  /-- `OR **,A`: <word> C4 (R349). -/
  | orWA (p : WOp)
  /-- `ORB *,A`: <byte> C4 (R352). -/
  | orbBA (p : BOp)
  /-- `XOR A,off`: DD off8 (R353). -/
  | xorAOff (a : Byte)
  /-- `XORB A,off`: DD off8 (R356). -/
  | xorbAOff (a : Byte)
  /-- `XOR A,#N16`: DE N16L N16H (R353). -/
  | xorAImm (v : Word)
  /-- `XORB A,#N8`: DE N8 (R356). -/
  | xorbAImm (v : Byte)
  /-- `XOR A,**`: <word> D5 (R354). -/
  | xorAW (p : WOp)
  /-- `XORB A,*`: <byte> D5 (R357). -/
  | xorbAB (p : BOp)
  /-- `XOR **,fix`: <word> D0 fix8 (R355). -/
  | xorWFix (p : WOp) (a : Byte)
  /-- `XORB *,fix`: <byte> D0 fix8 (R358). -/
  | xorbBFix (p : BOp) (a : Byte)
  /-- `XOR **,off`: <word> D1 off8 (R355). -/
  | xorWOff (p : WOp) (a : Byte)
  /-- `XORB *,off`: <byte> D1 off8 (R358). -/
  | xorbBOff (p : BOp) (a : Byte)
  /-- `XOR **,sfr`: <word> D2 sfr8 (R355). -/
  | xorWSfr (p : WOp) (a : Byte)
  /-- `XORB *,sfr`: <byte> D2 sfr8 (R358). -/
  | xorbBSfr (p : BOp) (a : Byte)
  /-- `XOR **,#N16`: <word> D3 N16L N16H (R355). -/
  | xorWImm (p : WOp) (v : Word)
  /-- `XORB *,#N8`: <byte> D3 N8 (R358). -/
  | xorbBImm (p : BOp) (v : Byte)
  /-- `XOR **,A`: <word> D4 (R355). -/
  | xorWA (p : WOp)
  /-- `XORB *,A`: <byte> D4 (R358). -/
  | xorbBA (p : BOp)
  /-- `LC A,[**]`: <word> DA (R361). -/
  | lcAInd (p : WOp)
  /-- `LC A,T16[**]`: <word> E7 T16L T16H (R362). -/
  | lcAT16 (p : WOp) (w : Word)
  /-- `LC A,Tadr`: 60 B7 TadrL TadrH (R363). -/
  | lcATadr (w : Word)
  /-- `LCB A,[**]`: <word> DB (R364). -/
  | lcbAInd (p : WOp)
  /-- `LCB A,T16[**]`: <word> F7 T16L T16H (R365). -/
  | lcbAT16 (p : WOp) (w : Word)
  /-- `LCB A,Tadr`: 8A B7 TadrL TadrH (R366). -/
  | lcbATadr (w : Word)
  /-- `CMPC A,[**]`: <word> D8 (R367). -/
  | cmpcAInd (p : WOp)
  /-- `CMPC A,T16[**]`: <word> E6 T16L T16H (R368). -/
  | cmpcAT16 (p : WOp) (w : Word)
  /-- `CMPC A,Tadr`: 60 B6 TadrL TadrH (R369). -/
  | cmpcATadr (w : Word)
  /-- `CMPCB A,[**]`: <word> D9 (R370). -/
  | cmpcbAInd (p : WOp)
  /-- `CMPCB A,T16[**]`: <word> F6 T16L T16H (R371). -/
  | cmpcbAT16 (p : WOp) (w : Word)
  /-- `CMPCB A,Tadr`: 8A B6 TadrL TadrH (R372). -/
  | cmpcbATadr (w : Word)
  /-- `RB *.bit`: <byte> 00+bit (R383). -/
  | rbBit (p : BOp) (bit : Fin 8)
  /-- `SB *.bit`: <byte> 08+bit (R381). -/
  | sbBit (p : BOp) (bit : Fin 8)
  /-- `MB C,*.bit`: <byte> 10+bit (R385). -/
  | mbCBit (p : BOp) (bit : Fin 8)
  /-- `MB *.bit,C`: <byte> 18+bit (R386). -/
  | mbBitC (p : BOp) (bit : Fin 8)
  /-- `BAND C,*.bit`: <byte> 40+bit (R387). -/
  | bandCBit (p : BOp) (bit : Fin 8)
  /-- `BANDN C,*.bit`: <byte> 48+bit (R388). -/
  | bandnCBit (p : BOp) (bit : Fin 8)
  /-- `BOR C,*.bit`: <byte> 50+bit (R389). -/
  | borCBit (p : BOp) (bit : Fin 8)
  /-- `BORN C,*.bit`: <byte> 58+bit (R390). -/
  | bornCBit (p : BOp) (bit : Fin 8)
  /-- `BXOR C,*.bit`: <byte> 60+bit (R391). -/
  | bxorCBit (p : BOp) (bit : Fin 8)
  /-- `SB sbafix.bit`: 58+bit k (b2[7:6]=00) (R382). -/
  | sbSbafix (bit : Fin 8) (k : BitVec 6)
  /-- `RB sbafix.bit`: 58+bit 40+k (b2[7:6]=01) (R384). -/
  | rbSbafix (bit : Fin 8) (k : BitVec 6)
  /-- `SB sbaoff.bit`: 48+bit k (b2[7:6]=00) (R382). -/
  | sbSbaoff (bit : Fin 8) (k : BitVec 6)
  /-- `RB sbaoff.bit`: 48+bit 40+k (b2[7:6]=01) (R384). -/
  | rbSbaoff (bit : Fin 8) (k : BitVec 6)
  /-- `SBR *`: <byte> B8 (R393). -/
  | sbrB (p : BOp)
  /-- `RBR *`: <byte> B9 (R394). -/
  | rbrB (p : BOp)
  /-- `TBR *`: <byte> CA (R395). -/
  | tbrB (p : BOp)
  /-- `MBR C,*`: <byte> BA (R396). -/
  | mbrCB (p : BOp)
  /-- `MBR *,C`: <byte> BB (R397). -/
  | mbrBC (p : BOp)
  /-- `JBS *.bit,radr`: <byte> 28+bit rdiff8 (R411). -/
  | jbsBit (p : BOp) (bit : Fin 8) (d : Byte)
  /-- `JBS sbafix.bit,radr`: 58+bit 80+k rdiff8 (b2[7:6]=10) (R412). -/
  | jbsSbafix (bit : Fin 8) (k : BitVec 6) (d : Byte)
  /-- `JBS sbaoff.bit,radr`: 48+bit 80+k rdiff8 (b2[7:6]=10) (R412). -/
  | jbsSbaoff (bit : Fin 8) (k : BitVec 6) (d : Byte)
  /-- `JBR *.bit,radr`: <byte> 20+bit rdiff8 (R413). -/
  | jbrBit (p : BOp) (bit : Fin 8) (d : Byte)
  /-- `JBR sbafix.bit,radr`: 58+bit C0+k rdiff8 (b2[7:6]=11) (R414). -/
  | jbrSbafix (bit : Fin 8) (k : BitVec 6) (d : Byte)
  /-- `JBR sbaoff.bit,radr`: 48+bit C0+k rdiff8 (b2[7:6]=11) (R414). -/
  | jbrSbaoff (bit : Fin 8) (k : BitVec 6) (d : Byte)
  /-- `JBSR *.bit,radr`: <byte> 38+bit rdiff8 (R415). -/
  | jbsrBit (p : BOp) (bit : Fin 8) (d : Byte)
  /-- `JBRS *.bit,radr`: <byte> 30+bit rdiff8 (R416). -/
  | jbrsBit (p : BOp) (bit : Fin 8) (d : Byte)
  /-- `TJZ A,radr`: BC A7 rdiff8 (R417). -/
  | tjzA (d : Byte)
  /-- `TJZ **,radr`: <word> A7 rdiff8 (R418). -/
  | tjzW (p : WOp) (d : Byte)
  /-- `TJNZ A,radr`: BC A6 rdiff8 (R419). -/
  | tjnzA (d : Byte)
  /-- `TJNZ **,radr`: <word> A6 rdiff8 (R420). -/
  | tjnzW (p : WOp) (d : Byte)
  /-- `TJZB A,radr`: BC A7 rdiff8 (R421). -/
  | tjzbA (d : Byte)
  /-- `TJZB *,radr`: <byte> A7 rdiff8 (R422). -/
  | tjzbB (p : BOp) (d : Byte)
  /-- `TJNZB A,radr`: BC A6 rdiff8 (R423). -/
  | tjnzbA (d : Byte)
  /-- `TJNZB *,radr`: <byte> A6 rdiff8 (R424). -/
  | tjnzbB (p : BOp) (d : Byte)
  /-- `JGT radr`: F0 rdiff8 (R426). -/
  | jgt (d : Byte)
  /-- `JGE (= JNC) radr`: F5 rdiff8 (R427). -/
  | jge (d : Byte)
  /-- `JLT (= JCY) radr`: F2 rdiff8 (R428). -/
  | jlt (d : Byte)
  /-- `JLE radr`: F7 rdiff8 (R429). -/
  | jle (d : Byte)
  /-- `JEQ (= JZ) radr`: F1 rdiff8 (R430). -/
  | jeq (d : Byte)
  /-- `JNE (= JNZ) radr`: F6 rdiff8 (R431). -/
  | jne (d : Byte)
  /-- `JPS radr`: F4 rdiff8 (R436). -/
  | jps (d : Byte)
  /-- `JNS radr`: F3 rdiff8 (R437). -/
  | jns (d : Byte)
  /-- `JGTS radr`: 8A FE rdiff8 (R432). -/
  | jgts (d : Byte)
  /-- `JGES radr`: 8A FF rdiff8 (R433). -/
  | jges (d : Byte)
  /-- `JLTS radr`: 8A FC rdiff8 (R434). -/
  | jlts (d : Byte)
  /-- `JLES radr`: 8A FD rdiff8 (R435). -/
  | jles (d : Byte)
  /-- `JOV radr`: 9A 29 rdiff8 (R438). -/
  | jov (d : Byte)
  /-- `JNV radr`: 9A 21 rdiff8 (R439). -/
  | jnv (d : Byte)
  /-- `DJNZ R4,radr`: 05 rdiff7 (R440). -/
  | djnzR4 (d : BitVec 7)
  /-- `DJNZ R5,radr`: 05 80+rdiff7 (R440). -/
  | djnzR5 (d : BitVec 7)
  /-- `DJNZ PRnL,radr`: 60+n EA rdiff8 (R441). -/
  | djnzPrL (n : PR) (d : Byte)
  /-- `DJNZ *,radr`: <byte> EA rdiff8 (R442). -/
  | djnzB (p : BOp) (d : Byte)
  /-- `JRNZ DP,radr`: 62 EA rdiff8 (R443). -/
  | jrnzDp (d : Byte)
  /-- `SJ radr`: 04 rdiff8 (R444). -/
  | sj (d : Byte)
  /-- `J Cadr`: 03 CadrL CadrH (R445). -/
  | jCadr (w : Word)
  /-- `J [**]`: <word> C9 (R446). -/
  | jInd (p : WOp)
  /-- `CAL Cadr`: FE CadrL CadrH (R447). -/
  | calCadr (w : Word)
  /-- `CAL [**]`: <word> EB (R448). -/
  | calInd (p : WOp)
  /-- `SCAL Cadr`: FE CadrL CadrH (R449). -/
  | scalCadr (w : Word)
  /-- `ACAL Cadr11`: 44+h Cadr11L (R450). -/
  | acal (h : Fin 8) (lo : Byte)
  /-- `VCAL Vadr`: E0+Vno4 (R452). -/
  | vcal (v : Fin 16)
  /-- `RT`: 01 (R453). -/
  | rt
  /-- `FCAL Fadr`: 07 08 FadrL FadrM FadrH (R454). -/
  | fcal (seg : Byte) (w : Word)
  /-- `FJ Fadr`: 60 FA FadrL FadrM FadrH (R455). -/
  | fj (seg : Byte) (w : Word)
  /-- `FRT`: 07 09 (R456). -/
  | frt
  /-- `RTI`: 02 (R457). -/
  | rti
  /-- `SC`: CB (R471). -/
  | sc
  /-- `RC`: CA (R472). -/
  | rc
  /-- `CPL C`: FD (R473). -/
  | cplC
  /-- `SDD`: D9 (R474). -/
  | sdd
  /-- `RDD`: D8 (R475). -/
  | rdd
  /-- `EI`: DB (R476). -/
  | ei
  /-- `DI`: DA (R477). -/
  | di
  /-- `EXTND`: FC (R478). -/
  | extnd
  /-- `NOP`: 00 (R479). -/
  | nop
  /-- `BRK`: FF (R480). -/
  | brk
  /-- `MAC`: B6 addr 08+bit (R481). -/
  | mac (a : Byte) (bit : Fin 8)
  /-- `<word> A`: BC (R140). -/
  | pfxWA (s : Byte)
  /-- `<word> PRn`: 60+n (R140). -/
  | pfxWPr (n : PR) (s : Byte)
  /-- `<word> ERn`: 64+n (R140). -/
  | pfxWEr (n : ER) (s : Byte)
  /-- `<byte> Rn`: 68+n (R141). -/
  | pfxBR (n : R8) (s : Byte)
  /-- `<word> [X1]`: A0 (R140). -/
  | pfxWX1 (s : Byte)
  /-- `<byte> [X1]`: B0 (R141). -/
  | pfxBX1 (s : Byte)
  /-- `<word> [DP-]`: A1 (R140). -/
  | pfxWDpDec (s : Byte)
  /-- `<byte> [DP-]`: B1 (R141). -/
  | pfxBDpDec (s : Byte)
  /-- `<word> [DP]`: A2 (R140). -/
  | pfxWDp (s : Byte)
  /-- `<byte> [DP]`: B2 (R141). -/
  | pfxBDp (s : Byte)
  /-- `<word> [DP+]`: A3 (R140). -/
  | pfxWDpInc (s : Byte)
  /-- `<byte> [DP+]`: B3 (R141). -/
  | pfxBDpInc (s : Byte)
  /-- `<word> fix`: A4 fix8 (R140). -/
  | pfxWFix (a : Byte) (s : Byte)
  /-- `<byte> fix`: B4 fix8 (R141). -/
  | pfxBFix (a : Byte) (s : Byte)
  /-- `<word> off`: A5 off8 (R140). -/
  | pfxWOff (a : Byte) (s : Byte)
  /-- `<byte> off`: B5 off8 (R141). -/
  | pfxBOff (a : Byte) (s : Byte)
  /-- `<word> sfr`: A6 sfr8 (R140). -/
  | pfxWSfr (a : Byte) (s : Byte)
  /-- `<byte> sfr`: B6 sfr8 (R141). -/
  | pfxBSfr (a : Byte) (s : Byte)
  /-- `<word> dir`: A7 dirL dirH (R140). -/
  | pfxWDir (w : Word) (s : Byte)
  /-- `<byte> dir`: B7 dirL dirH (R141). -/
  | pfxBDir (w : Word) (s : Byte)
  /-- `<word> D16[X1]`: A8 D16L D16H (R140). -/
  | pfxWD16X1 (w : Word) (s : Byte)
  /-- `<byte> D16[X1]`: B8 D16L D16H (R141). -/
  | pfxBD16X1 (w : Word) (s : Byte)
  /-- `<word> D16[X2]`: A9 D16L D16H (R140). -/
  | pfxWD16X2 (w : Word) (s : Byte)
  /-- `<byte> D16[X2]`: B9 D16L D16H (R141). -/
  | pfxBD16X2 (w : Word) (s : Byte)
  /-- `<word> [X1+A]`: AA (R140). -/
  | pfxWX1A (s : Byte)
  /-- `<byte> [X1+A]`: BA (R141). -/
  | pfxBX1A (s : Byte)
  /-- `<word> [X1+R0]`: AB (R140). -/
  | pfxWX1R0 (s : Byte)
  /-- `<byte> [X1+R0]`: BB (R141). -/
  | pfxBX1R0 (s : Byte)
  /-- `<word> n7[DP] (b2[7]=0) / n7[USP] (b2[7]=1)`: 8B b2 (R140). -/
  | pfxWN7 (b : N7Base) (n : BitVec 7) (s : Byte)
  /-- `<byte> n7[DP] (b2[7]=0) / n7[USP] (b2[7]=1)`: 9B b2 (R141). -/
  | pfxBN7 (b : N7Base) (n : BitVec 7) (s : Byte)
  /-- `<byte> PSWL`: 8A (R141). -/
  | pfxBPswl (s : Byte)
  /-- `<byte> PSWH`: 9A (R141). -/
  | pfxBPswh (s : Byte)
  /-- `(unlisted)`: 54-57 (R165). -/
  | unassigned (lo : Fin 4)
deriving DecidableEq, Repr

end Sys2Proof
end

