-- ==== Sys2Proof/Machine/Bits.lean ====
section
/-! DEFINITION. Bit fields, sign extension and byte order: the notation of 00_scope.md R10, R11 and 20_memory.md R82. -/

namespace Sys2Proof.Machine

/-- The low byte, bits 7 to 0, which stands at the lower address (R82). -/
def loByte (w : Word) : Byte := w.extractLsb' 0 8

/-- The high byte, bits 15 to 8, which stands at the higher address (R82). -/
def hiByte (w : Word) : Byte := w.extractLsb' 8 8

/-- The word `{hi, lo}` (R10). -/
def mkWord (hi lo : Byte) : Word := hi ++ lo

/-- `w` with its low byte replaced (a write of AL, PSWL, LRBL). -/
def setLo (w : Word) (v : Byte) : Word := mkWord (hiByte w) v

/-- `w` with its high byte replaced (a write of AH, PSWH, LRBH). -/
def setHi (w : Word) (v : Byte) : Word := mkWord v (loByte w)

/-- `zext_16` of R11. -/
def zext (b : Byte) : Word := b.setWidth 16

/-- `sext_8` of R11: an 8-bit displacement as 16 bits. -/
def sext8 (b : Byte) : Word := b.signExtend 16

/-- `sext_7` of R11: the 7-bit displacement n7 as 16 bits (90_conflicts.md C3). -/
def sext7 (n : BitVec 7) : Word := n.signExtend 16

/-- `x` with bit `i` set to `b`, the other bits as they were (R109). -/
def putBit {n : Nat} (x : BitVec n) (i : Nat) (b : Bool) : BitVec n :=
  if b then x ||| BitVec.twoPow n i else x &&& ~~~BitVec.twoPow n i

/-- The displacement byte of a native n7 code (30_encoding.md R160): bit 7 is 0 for USP and 1 for DP. -/
def n7Byte (bit7 : Bool) (n : BitVec 7) : Byte := BitVec.ofBool bit7 ++ n

/-- The low 7 bits of a displacement byte (R142, R153). -/
def low7 (b : Byte) : BitVec 7 := b.extractLsb' 0 7

/-- Bit 7 of a displacement byte (R142, R153). -/
def bit7 (b : Byte) : Bool := b.getLsbD 7

/-- The low 6 bits of the second byte of an SBA code (R152). -/
def low6 (b : Byte) : BitVec 6 := b.extractLsb' 0 6

end Sys2Proof.Machine

namespace Sys2Proof

/-- The number n of ERn (R137). -/
def ER.num (n : ER) : Nat :=
  match n with
  | .er0 => 0 | .er1 => 1 | .er2 => 2 | .er3 => 3

/-- The number n of PRn: X1, X2, DP, USP (R137). -/
def PR.num (n : PR) : Nat :=
  match n with
  | .x1 => 0 | .x2 => 1 | .dp => 2 | .usp => 3

/-- The number n of Rn (R137). -/
def R8.num (n : R8) : Nat :=
  match n with
  | .r0 => 0 | .r1 => 1 | .r2 => 2 | .r3 => 3 | .r4 => 4 | .r5 => 5 | .r6 => 6 | .r7 => 7

/-- R0 to R3, the registers of the one-byte INCB and DECB codes (R285, R291). -/
def R8.low (n : Fin 4) : R8 :=
  match n with
  | 0 => .r0 | 1 => .r1 | 2 => .r2 | 3 => .r3

/-- The addressing mode n7[DP] or n7[USP] (R142). -/
def n7Mode (b : N7Base) (n : BitVec 7) : Mode :=
  match b with
  | .dp => .n7dp n
  | .usp => .n7usp n

end Sys2Proof
end

