-- ==== Sys2Proof/Config.lean ====
section
/-! DEFINITION. What a device fixes (00_scope.md R8) and what the spec leaves open. The parameters of R8 are plain data,
held in the state's field `dev` and changed by no step, so that a statement about every state speaks of every device.
The values the spec leaves undefined are opaque constants: nothing can be proved about which value they are. -/

namespace Sys2Proof

/-- The four memory models of 10_state.md R66. -/
inductive MemModel where
  | small | compact | medium | large
deriving DecidableEq, Repr

/-- How an SFR of the device's SFR_MAP may be accessed (20_memory.md R91, R108). -/
inductive SfrKind where
  /-- Reads what was written. -/
  | readWrite
  /-- A write of it faults. -/
  | readOnly
  /-- A read of it faults. -/
  | writeOnly
  /-- What a read gives and what a write leaves are the device's own (R108, 93_implementation_defined.md P1, log 32). -/
  | special
deriving DecidableEq, Repr

/-- The direction a REGMASK byte selects (41_stack.md R241). -/
inductive StackDir where
  | push | pop
deriving DecidableEq, Repr

/-- One row of REGMASK: what the byte after 06 stands for (41_stack.md R241). -/
structure RegMaskEntry where
  mask : Byte
  dir : StackDir
  list : RegList
deriving DecidableEq, Repr

/-- The device parameters of 00_scope.md R8. A range is a pair of first and last physical address. -/
structure Device where
  /-- MODELS_PERMITTED. -/
  modelsPermitted : List MemModel
  /-- CSR_BITS. -/
  csrBits : Nat
  /-- TSR_BITS. -/
  tsrBits : Nat
  /-- DSR_BITS. -/
  dsrBits : Nat
  /-- SFR_ADDR_ACC, the address of AL; AH is one above. `none` is OPEN (D4). -/
  sfrAcc : Option Byte
  /-- SFR_ADDR_TSR. -/
  sfrTsr : Option Byte
  /-- SFR_ADDR_DSR. -/
  sfrDsr : Option Byte
  /-- SFR_ADDR_ROMWIN. -/
  sfrRomwin : Option Byte
  /-- SFR_MAP: the device's other SFRs, addresses 0 to 1FFH. -/
  sfrMap : List (Nat × SfrKind)
  /-- SFR_MAP: the odd addresses of its SFRs at which a word access is an exception to the word boundary (U11, log 41). -/
  sfrOddWords : List Nat
  /-- INTERNAL_DATA_RANGES. -/
  internalData : List (Nat × Nat)
  /-- DATA_MEMORY_PRESENT. -/
  dataPresent : List (Nat × Nat)
  /-- CODE_MEMORY_PRESENT. -/
  codePresent : List (Nat × Nat)
  /-- HAS_MULTIPLIER, read by the cycle table alone. -/
  hasMultiplier : Bool
  /-- HAS_MAC with MAC_START_ADDR and MAC_START_BIT. -/
  macStart : Option (Byte × Fin 8)
  /-- IRQ_SOURCES. -/
  irqSources : List Nat
  /-- WARM_RESET_KEEPS_RAM. -/
  warmResetKeepsRam : Bool
  /-- REGMASK. `none` is OPEN (D7). -/
  regMask : Option (List RegMaskEntry)
  /-- ACAL_HI: the first bytes of ACAL to 1400H-17FFH, each with Cadr11 bits 10 to 8, less 4. Empty is OPEN (D8). Only the
  first bytes that stand free, 54 to 57, are looked up: every other one has its meaning from 30_encoding.md R160 (log 19). -/
  acalHi : List (Byte × Fin 4)
  /-- PSW_RESET: only bits 10, 8, 7, 6, 5, 4, 3 are used (D2). -/
  pswReset : Word
deriving DecidableEq, Repr

/-- The proposed defaults of 00_scope.md R8 (log 8): every memory model, eight-bit segment registers, no further SFR
address given, no internal memory, both 16M-byte spaces present, all 32 interrupt sources. -/
def Device.default : Device where
  modelsPermitted := [.small, .compact, .medium, .large]
  csrBits := 8
  tsrBits := 8
  dsrBits := 8
  sfrAcc := none
  sfrTsr := none
  sfrDsr := none
  sfrRomwin := none
  sfrMap := []
  sfrOddWords := []
  internalData := []
  dataPresent := [(0, 0xFFFFFF)]
  codePresent := [(0, 0xFFFFFF)]
  hasMultiplier := false
  macStart := none
  irqSources := (List.range 32).map (· + 1)
  warmResetKeepsRam := false
  regMask := none
  acalHi := []
  pswReset := 0

namespace Config

/-- The n-th free word: a result the source calls undefined (92_eei_decisions.md D19, log 9). -/
opaque freeWord : Nat → BitVec 16

/-- The n-th free byte (92_eei_decisions.md D19, log 9). -/
opaque freeByte : Nat → BitVec 8

/-- The n-th free bit: an undefined flag (D19) or the choice of D13 (logs 9 and 10). -/
opaque freeBit : Nat → Bool

/-- IRQ_ENTRY_PSW of a device: the PSW after an interrupt entry, from the PSW before it and the source, 0 for the NMI and k
for maskable interrupt k (60_exceptions.md R511, 92_eei_decisions.md D10, log 11). -/
opaque irqEntryPsw : Device → BitVec 16 → Nat → BitVec 16

/-- What a read of a special SFR of a device gives, from its address and what it holds (R108, P1, log 32). -/
opaque sfrReads : Device → Nat → BitVec 8 → BitVec 8

/-- What a special SFR of a device holds after a write, from its address, what it held and the byte written (R108, P1,
log 32). -/
opaque sfrWrites : Device → Nat → BitVec 8 → BitVec 8 → BitVec 8

end Config

end Sys2Proof
end

