-- ==== Sys2Proof/WellFormed.lean ====
section
/-! DEFINITION. Which terms of `Instr` stand for an encoding of a device: the accumulator prefix where the rules allow it
(30_encoding.md R147), register lists REGMASK can name (41_stack.md R240, R241), ACAL targets the device can encode (R150),
the MAC start bit (49_other.md R481), and suffix bytes no rule lists behind a bare prefix (R161, R165). -/

namespace Sys2Proof

/-- "prefix A invalid": a word operand that is not the accumulator (R147). -/
def WOp.notAcc (p : WOp) : Bool :=
  match p with
  | .acc => false
  | .er _ | .pr _ | .mem _ => true

/-- "prefix A invalid": a byte operand that is not the accumulator (R147). -/
def BOp.notAcc (p : BOp) : Bool :=
  match p with
  | .acc => false
  | .r _ | .pswl | .pswh | .mem _ => true

/-- A register list names at least one register (R240). -/
def RegList.nonempty (l : RegList) : Bool :=
  match l with
  | .er a b c d | .pr a b c d => a || b || c || d
  | .cr a b c => a || b || c

/-- The REGMASK row of a direction and a list is the row of its own mask byte: one list, one byte, one list back (R241). -/
def RegMaskEntry.isFirst (tbl : List RegMaskEntry) (d : StackDir) (l : RegList) : Bool :=
  match tbl.find? fun e => decide (e.dir = d) && decide (e.list = l) with
  | none => false
  | some e =>
    match tbl.find? fun f => decide (f.mask = e.mask) with
    | none => false
    | some f => decide (f.dir = d) && decide (f.list = l)

/-- A register list the device's REGMASK can encode (R240, R241). -/
def listOk (dev : Device) (d : StackDir) (l : RegList) : Bool :=
  match dev.regMask with
  | none => false
  | some tbl => l.nonempty && RegMaskEntry.isFirst tbl d l

/-- The row of ACAL_HI for a first byte (R150). -/
def acalHiEntry (dev : Device) (b : Byte) : Option (Byte × Fin 4) := dev.acalHi.find? fun e => decide (e.1 = b)

/-- An ACAL target above 13FFH that the device can encode: one of the free first bytes 54 to 57 stands for it (R150, D8). -/
def acalHiOk (dev : Device) (h : Fin 8) : Bool :=
  [0, 1, 2, 3].any fun n =>
    match acalHiEntry dev (BitVec.ofNat 8 (0x54 + n)) with
    | none => false
    | some e => decide (e.2.val + 4 = h.val)

/-- The suffix bytes no row lists behind any prefix: 68-6F, 78-7F, CB-CF, DC-DF, E8, E9 (R161). -/
def neverSuffix (s : Nat) : Bool :=
  (0x68 ≤ s && s ≤ 0x6F) || (0x78 ≤ s && s ≤ 0x7F) || (0xCB ≤ s && s ≤ 0xCF) || (0xDC ≤ s && s ≤ 0xDF)
    || s == 0xE8 || s == 0xE9

/-- Whether a suffix byte is listed after a word prefix other than BC (R161, column W). `prn` says the prefix is 60 to 63,
`x1` that it is 60. -/
def listedW (prn x1 : Bool) (s : Nat) : Bool :=
  if neverSuffix s || s < 0x70 then false
  else if s == 0xB6 || s == 0xB7 || s == 0xFA then x1
  else if s == 0xEA then prn
  else !((0xB8 ≤ s && s ≤ 0xBB) || s == 0xCA || 0xFC ≤ s)

/-- Whether a suffix byte is listed after a byte prefix other than BC (R161, column B). `pswl` says the prefix is 8A. -/
def listedB (pswl : Bool) (s : Nat) : Bool :=
  if neverSuffix s then false
  else if s == 0xB6 || s == 0xB7 || 0xFC ≤ s then pswl
  else !(s == 0xC9 || (0xD8 ≤ s && s ≤ 0xDB) || s == 0xE6 || s == 0xE7 || s == 0xEB || s == 0xF6 || s == 0xF7
    || s == 0xFA || s == 0xFB)

/-- Whether a suffix byte is listed after the accumulator prefix BC (R147). -/
def listedBC (s : Nat) : Bool :=
  s < 0x68 || (0x8C ≤ s && s ≤ 0x8F) || s == 0x99 || (0x9C ≤ s && s ≤ 0x9F) || s == 0xA6 || s == 0xA7 || s == 0xA9
    || (0xAC ≤ s && s ≤ 0xAF) || (0xBC ≤ s && s ≤ 0xBF) || s == 0xC9 || s == 0xD7 || s == 0xDA || s == 0xDB || s == 0xE3
    || s == 0xE7 || s == 0xEA || s == 0xEB || (0xEC ≤ s && s ≤ 0xEF) || s == 0xF3 || s == 0xF7

/-- The well-formedness of an instruction of a device. -/
def WellFormed (dev : Device) (i : Instr) : Bool :=
  match i with
  | .lAImm .. | .lAEr .. | .lAPr .. | .lAX1 | .lbAX1 | .lADpDec | .lbADpDec | .lADp | .lbADp | .lADpInc | .lbADpInc
  | .lAFix .. | .lbAFix .. | .lAOff .. | .lbAOff .. | .lASfr .. | .lbASfr .. | .lADir .. | .lbADir .. | .lAD16X1 ..
  | .lbAD16X1 .. | .lAN7 .. | .lbAN7 .. | .lbAImm .. | .lbAR .. | .stAEr .. | .stAPr .. | .stbAR .. | .stAX1
  | .stbAX1 | .stADpDec | .stbADpDec | .stADp | .stbADp | .stADpInc | .stbADpInc | .stAFix .. | .stbAFix ..
  | .stAOff .. | .stbAOff .. | .stASfr .. | .stbASfr .. | .stADir .. | .stbADir .. | .stAD16X1 .. | .stbAD16X1 ..
  | .stAN7 .. | .stbAN7 .. | .stAD16X2 .. | .stbAD16X2 .. | .movPrImm .. | .movErImm .. | .movSfrImm ..
  | .movOffImm .. | .movbRImm .. | .movbSfrImm .. | .movbOffImm .. | .clrA | .clrbA | .swap | .fillA | .fillbA
  | .pushsA | .sllA | .sllbA | .sllAWidth .. | .sllbAWidth .. | .srlA | .srlbA | .srlAWidth .. | .srlbAWidth ..
  | .sraAWidth .. | .srabAWidth .. | .rolA | .rolbA | .rolAWidth .. | .rolbAWidth .. | .rorA | .rorbA | .rorAWidth ..
  | .rorbAWidth .. | .incA | .incbA | .incPr .. | .incbR .. | .decA | .decbA | .decPr .. | .decbR .. | .addAEr ..
  | .addAPr .. | .addbAR .. | .addAFix .. | .addbAFix .. | .addAOff .. | .addbAOff .. | .addAImm .. | .addbAImm ..
  | .adcAImm .. | .adcbAImm .. | .subAEr .. | .subAPr .. | .subbAR .. | .subAFix .. | .subbAFix .. | .subAOff ..
  | .subbAOff .. | .subAImm .. | .subbAImm .. | .sbcAImm .. | .sbcbAImm .. | .cmpAEr .. | .cmpAPr .. | .cmpbAR ..
  | .cmpAFix .. | .cmpbAFix .. | .cmpAOff .. | .cmpbAOff .. | .cmpAImm .. | .cmpbAImm .. | .cmpFixImm ..
  | .cmpOffImm .. | .cmpbFixImm .. | .cmpbOffImm .. | .negA | .negbA | .sqrA | .sqrbA | .andAOff .. | .andbAOff ..
  | .andAImm .. | .andbAImm .. | .orAOff .. | .orbAOff .. | .orAImm .. | .orbAImm .. | .xorAOff .. | .xorbAOff ..
  | .xorAImm .. | .xorbAImm .. | .lcAInd .. | .lcAT16 .. | .lcATadr .. | .lcbAInd .. | .lcbAT16 .. | .lcbATadr ..
  | .cmpcATadr .. | .cmpcbATadr .. | .rbBit .. | .sbBit .. | .mbCBit .. | .mbBitC .. | .bandCBit .. | .bandnCBit ..
  | .borCBit .. | .bornCBit .. | .bxorCBit .. | .sbSbafix .. | .rbSbafix .. | .sbSbaoff .. | .rbSbaoff ..
  | .jbsBit .. | .jbsSbafix .. | .jbsSbaoff .. | .jbrBit .. | .jbrSbafix .. | .jbrSbaoff .. | .jbsrBit ..
  | .jbrsBit .. | .tjzA .. | .tjnzA .. | .tjzbA .. | .tjnzbA .. | .jgt .. | .jge .. | .jlt .. | .jle .. | .jeq ..
  | .jne .. | .jps .. | .jns .. | .jgts .. | .jges .. | .jlts .. | .jles .. | .jov .. | .jnv .. | .djnzR4 ..
  | .djnzR5 .. | .djnzPrL .. | .djnzB .. | .jrnzDp .. | .sj .. | .jCadr .. | .jInd .. | .calCadr .. | .calInd ..
  | .scalCadr .. | .vcal .. | .rt | .fcal .. | .fj .. | .frt | .rti | .sc | .rc | .cplC | .sdd | .rdd | .ei | .di
  | .extnd | .nop | .brk => true
  | .movAW p | .movErW _ p | .movPrW _ p | .movFixW _ p | .movOffW _ p | .movX1W p | .movDpDecW p | .movDpW p
  | .movDpIncW p | .movSfrW _ p | .movD16X1W _ p | .movD16X2W _ p | .movN7W _ _ p | .movDirW _ p | .movX1AW p
  | .movX1R0W p | .movWA p | .movWImm p _ | .clrW p | .fillW p | .xchgAW p | .sllWWidth p _ | .srlWWidth p _
  | .sraWWidth p _ | .rolWWidth p _ | .rorWWidth p _ | .incW p | .decW p | .addAW p | .addWFix p _ | .addWOff p _
  | .addWSfr p _ | .addWImm p _ | .addWA p | .adcAW p | .adcWFix p _ | .adcWOff p _ | .adcWSfr p _ | .adcWImm p _
  | .adcWA p | .subAW p | .subWFix p _ | .subWOff p _ | .subWSfr p _ | .subWImm p _ | .subWA p | .sbcAW p
  | .sbcWFix p _ | .sbcWOff p _ | .sbcWSfr p _ | .sbcWImm p _ | .sbcWA p | .cmpAW p | .cmpWFix p _ | .cmpWOff p _
  | .cmpWSfr p _ | .cmpWImm p _ | .cmpWA p | .mulW p | .divW p | .divqW p | .andAW p | .andWFix p _ | .andWOff p _
  | .andWSfr p _ | .andWImm p _ | .andWA p | .orAW p | .orWFix p _ | .orWOff p _ | .orWSfr p _ | .orWImm p _
  | .orWA p | .xorAW p | .xorWFix p _ | .xorWOff p _ | .xorWSfr p _ | .xorWImm p _ | .xorWA p | .cmpcAInd p
  | .cmpcAT16 p _ | .cmpcbAInd p | .cmpcbAT16 p _ | .tjzW p _ | .tjnzW p _ => p.notAcc
  | .movbAB p | .movbRB _ p | .movbFixB _ p | .movbOffB _ p | .movbX1B p | .movbDpDecB p | .movbDpB p | .movbDpIncB p
  | .movbSfrB _ p | .movbD16X1B _ p | .movbD16X2B _ p | .movbN7B _ _ p | .movbDirB _ p | .movbX1AB p | .movbX1R0B p
  | .movbBA p | .movbBImm p _ | .clrbB p | .fillbB p | .xchgbAB p | .sllbBWidth p _ | .srlbBWidth p _
  | .srabBWidth p _ | .rolbBWidth p _ | .rorbBWidth p _ | .incbB p | .decbB p | .addbAB p | .addbBFix p _
  | .addbBOff p _ | .addbBSfr p _ | .addbBImm p _ | .addbBA p | .adcbAB p | .adcbBFix p _ | .adcbBOff p _
  | .adcbBSfr p _ | .adcbBImm p _ | .adcbBA p | .subbAB p | .subbBFix p _ | .subbBOff p _ | .subbBSfr p _
  | .subbBImm p _ | .subbBA p | .sbcbAB p | .sbcbBFix p _ | .sbcbBOff p _ | .sbcbBSfr p _ | .sbcbBImm p _ | .sbcbBA p
  | .cmpbAB p | .cmpbBFix p _ | .cmpbBOff p _ | .cmpbBSfr p _ | .cmpbBImm p _ | .cmpbBA p | .mulbB p | .divbB p
  | .andbAB p | .andbBFix p _ | .andbBOff p _ | .andbBSfr p _ | .andbBImm p _ | .andbBA p | .orbAB p | .orbBFix p _
  | .orbBOff p _ | .orbBSfr p _ | .orbBImm p _ | .orbBA p | .xorbAB p | .xorbBFix p _ | .xorbBOff p _ | .xorbBSfr p _
  | .xorbBImm p _ | .xorbBA p | .sbrB p | .rbrB p | .tbrB p | .mbrCB p | .mbrBC p | .tjzbB p _ | .tjnzbB p _ => p.notAcc
  | .pushs l => listOk dev .push l
  | .pops l => listOk dev .pop l
  | .acal h _ => decide (h.val < 4) || acalHiOk dev h
  | .mac a bit => decide (dev.macStart = some (a, bit))
  | .pfxWA s => !listedBC s.toNat
  | .pfxWPr n s => !listedW true (decide (n = .x1)) s.toNat
  | .pfxWEr _ s | .pfxWX1 s | .pfxWDpDec s | .pfxWDp s | .pfxWDpInc s | .pfxWFix _ s | .pfxWOff _ s | .pfxWSfr _ s
  | .pfxWDir _ s | .pfxWD16X1 _ s | .pfxWD16X2 _ s | .pfxWX1A s | .pfxWX1R0 s | .pfxWN7 _ _ s => !listedW false false s.toNat
  | .pfxBR _ s | .pfxBX1 s | .pfxBDpDec s | .pfxBDp s | .pfxBDpInc s | .pfxBFix _ s | .pfxBOff _ s | .pfxBSfr _ s
  | .pfxBDir _ s | .pfxBD16X1 _ s | .pfxBD16X2 _ s | .pfxBX1A s | .pfxBX1R0 s | .pfxBN7 _ _ s | .pfxBPswh s => !listedB false s.toNat
  | .pfxBPswl s => !listedB true s.toNat
  | .unassigned lo => (acalHiEntry dev (BitVec.ofNat 8 (0x54 + lo.val))).isNone

end Sys2Proof
end

