-- ==== Sys2Proof/Decode.lean ====
section
/-! DEFINITION. The decoder (30_encoding.md R130 to R170), total on any bytes, and after it the encoder, written from the same
tables. The decoder is organised as the opcode maps are: by the high nibble of the first byte (R160), of the suffix after a
word prefix or a byte prefix (R161), and after the accumulator prefix BC (R147). The definitions that build instructions are marked noncomputable for one reason only:
Lean's code generator has no tags for more than 245 constructors with fields. Its kernel evaluates them all. -/

namespace Sys2Proof

open Sys2Proof.Machine (mkWord loByte hiByte low7 low6 bit7 n7Byte)

/-- Why bytes do not decode. -/
inductive DecodeError where
  /-- The bytes end before the instruction does. -/
  | truncated
  /-- Opcode 06 and the device gives no REGMASK (R241, D7). -/
  | regMaskNotGiven
  /-- Opcode 06 and a mask byte REGMASK maps to `invalid`: an unlisted encoding (R241, R165). -/
  | invalidMask
deriving DecidableEq, Repr

/-- A decoded instruction with its length in bytes, or why there is none. -/
abbrev Decoded := Except DecodeError (Instr × Nat)

/-! ## Register numbers (R137) -/

/-- ERn of a register number. -/
def erOf (n : Nat) : ER :=
  match n with
  | 0 => .er0 | 1 => .er1 | 2 => .er2 | _ => .er3

/-- PRn of a register number. -/
def prOf (n : Nat) : PR :=
  match n with
  | 0 => .x1 | 1 => .x2 | 2 => .dp | _ => .usp

/-- Rn of a register number. -/
def r8Of (n : Nat) : R8 :=
  match n with
  | 0 => .r0 | 1 => .r1 | 2 => .r2 | 3 => .r3 | 4 => .r4 | 5 => .r5 | 6 => .r6 | _ => .r7

/-- A 3-bit field: a bit position. -/
def bitOf (n : Nat) : Fin 8 := Fin.ofNat 8 n

/-- A 2-bit field: a shift width - 1, or a register number 0 to 3. -/
def fin4Of (n : Nat) : Fin 4 := Fin.ofNat 4 n

/-! ## Operand bytes. `pos` is the number of bytes already consumed (R132). -/

/-- No operand byte. -/
def arg0 (pos : Nat) (i : Instr) : Decoded := .ok (i, pos)

/-- One operand byte. -/
def arg1 (pos : Nat) (f : Byte → Instr) (rest : List Byte) : Decoded :=
  match rest with
  | a :: _ => .ok (f a, pos + 1)
  | [] => .error .truncated

/-- Two operand bytes, low byte first. -/
def arg2 (pos : Nat) (f : Word → Instr) (rest : List Byte) : Decoded :=
  match rest with
  | lo :: hi :: _ => .ok (f (mkWord hi lo), pos + 2)
  | _ => .error .truncated

/-- Two operand bytes of one byte each. -/
def arg11 (pos : Nat) (f : Byte → Byte → Instr) (rest : List Byte) : Decoded :=
  match rest with
  | a :: v :: _ => .ok (f a v, pos + 2)
  | _ => .error .truncated

/-- An operand byte and a 16-bit value, low byte first. -/
def arg12 (pos : Nat) (f : Byte → Word → Instr) (rest : List Byte) : Decoded :=
  match rest with
  | a :: lo :: hi :: _ => .ok (f a (mkWord hi lo), pos + 3)
  | _ => .error .truncated

/-- FadrL FadrM FadrH (R132). -/
def argFar (pos : Nat) (f : Byte → Word → Instr) (rest : List Byte) : Decoded :=
  match rest with
  | lo :: mid :: seg :: _ => .ok (f seg (mkWord mid lo), pos + 3)
  | _ => .error .truncated

/-- A displacement byte whose bit 7 is 0 for USP and 1 for DP: the native codes 89, 99, C9 (R160). -/
def argN7Native (pos : Nat) (f : N7Base → BitVec 7 → Instr) (rest : List Byte) : Decoded :=
  match rest with
  | b :: _ => .ok (f (if bit7 b then .dp else .usp) (low7 b), pos + 1)
  | [] => .error .truncated

/-- A displacement byte whose bit 7 is 0 for DP and 1 for USP: the MOV suffix 9A (R161, R162). -/
def argN7Suffix (pos : Nat) (f : N7Base → BitVec 7 → Instr) (rest : List Byte) : Decoded :=
  match rest with
  | b :: _ => .ok (f (if bit7 b then .usp else .dp) (low7 b), pos + 1)
  | [] => .error .truncated

/-- An immediate whose length DD_FETCH selects: two bytes for the word instruction, one for the byte one (R135 a, b). -/
def argImm (dd : Bool) (pos : Nat) (fw : Word → Instr) (fb : Byte → Instr) (rest : List Byte) : Decoded :=
  if dd then arg2 pos fw rest else arg1 pos fb rest

/-- One operand byte, the instruction selected by DD_FETCH (R135 a). -/
def argDD1 (dd : Bool) (pos : Nat) (fw fb : Byte → Instr) (rest : List Byte) : Decoded :=
  arg1 pos (if dd then fw else fb) rest

/-- Two operand bytes, the instruction selected by DD_FETCH (R135 a). -/
def argDD2 (dd : Bool) (pos : Nat) (fw fb : Word → Instr) (rest : List Byte) : Decoded :=
  arg2 pos (if dd then fw else fb) rest

/-- A register code of eight values: ERn and PRn for the word instruction, Rn for the byte one (R160). -/
def argReg (dd : Bool) (k : Nat) (fe : ER → Instr) (fp : PR → Instr) (fr : R8 → Instr) : Decoded :=
  arg0 1 (if dd then (if k < 4 then fe (erOf k) else fp (prOf (k - 4))) else fr (r8Of k))

/-! ## Suffixes after a word prefix (R161, column W) -/

/-- The constructor of a word prefix followed by an unlisted suffix byte (R165). -/
noncomputable def unlistedW (p : WOp) (s : Byte) : Instr :=
  match p with
  | .acc => .pfxWA s
  | .er n => .pfxWEr n s
  | .pr n => .pfxWPr n s
  | .mem .x1 => .pfxWX1 s
  | .mem .dpDec => .pfxWDpDec s
  | .mem .dp => .pfxWDp s
  | .mem .dpInc => .pfxWDpInc s
  | .mem (.fix a) => .pfxWFix a s
  | .mem (.off a) => .pfxWOff a s
  | .mem (.sfr a) => .pfxWSfr a s
  | .mem (.dir w) => .pfxWDir w s
  | .mem (.d16x1 w) => .pfxWD16X1 w s
  | .mem (.d16x2 w) => .pfxWD16X2 w s
  | .mem .x1A => .pfxWX1A s
  | .mem .x1R0 => .pfxWX1R0 s
  | .mem (.n7dp n) => .pfxWN7 .dp n s
  | .mem (.n7usp n) => .pfxWN7 .usp n s

/-- The constructor of a byte prefix followed by an unlisted suffix byte (R165). -/
noncomputable def unlistedB (p : BOp) (s : Byte) : Instr :=
  match p with
  | .acc => .pfxWA s
  | .r n => .pfxBR n s
  | .pswl => .pfxBPswl s
  | .pswh => .pfxBPswh s
  | .mem .x1 => .pfxBX1 s
  | .mem .dpDec => .pfxBDpDec s
  | .mem .dp => .pfxBDp s
  | .mem .dpInc => .pfxBDpInc s
  | .mem (.fix a) => .pfxBFix a s
  | .mem (.off a) => .pfxBOff a s
  | .mem (.sfr a) => .pfxBSfr a s
  | .mem (.dir w) => .pfxBDir w s
  | .mem (.d16x1 w) => .pfxBD16X1 w s
  | .mem (.d16x2 w) => .pfxBD16X2 w s
  | .mem .x1A => .pfxBX1A s
  | .mem .x1R0 => .pfxBX1R0 s
  | .mem (.n7dp n) => .pfxBN7 .dp n s
  | .mem (.n7usp n) => .pfxBN7 .usp n s

/-- The six two-operand suffixes k0 to k5 of one word operation: fix, off, sfr, #N16, A, and `op A,**` (R295, R340). -/
def aluSuffixW (pos lo : Nat) (p : WOp) (fix off sfr : WOp → Byte → Instr) (imm : WOp → Word → Instr)
    (wa aw : WOp → Instr) (rest : List Byte) : Decoded :=
  match lo with
  | 0 => arg1 pos (fix p) rest
  | 1 => arg1 pos (off p) rest
  | 2 => arg1 pos (sfr p) rest
  | 3 => arg2 pos (imm p) rest
  | 4 => arg0 pos (wa p)
  | _ => arg0 pos (aw p)

/-- The six two-operand suffixes k0 to k5 of one byte operation. -/
def aluSuffixB (pos lo : Nat) (p : BOp) (fix off sfr imm : BOp → Byte → Instr) (ba ab : BOp → Instr)
    (rest : List Byte) : Decoded :=
  match lo with
  | 0 => arg1 pos (fix p) rest
  | 1 => arg1 pos (off p) rest
  | 2 => arg1 pos (sfr p) rest
  | 3 => arg1 pos (imm p) rest
  | 4 => arg0 pos (ba p)
  | _ => arg0 pos (ab p)

/-- The suffix map after a word prefix other than BC (R161). `pos` counts the prefix's bytes and the suffix byte. -/
noncomputable def suffixW (pos : Nat) (p : WOp) (s : Byte) (rest : List Byte) : Decoded :=
  let lo := s.toNat % 16
  let u : Decoded := arg0 pos (unlistedW p s)
  match s.toNat / 16 with
  | 0x7 =>
    if lo < 4 then arg0 pos (.movErW (erOf lo) p)
    else if lo < 8 then arg0 pos (.movPrW (prOf (lo - 4)) p)
    else u
  | 0x8 =>
    if lo < 6 then aluSuffixW pos lo p .subWFix .subWOff .subWSfr .subWImm .subWA .subAW rest
    else if 12 ≤ lo then arg0 pos (.sllWWidth p (fin4Of (lo - 12)))
    else match lo with
      | 6 => arg1 pos (fun a => .movFixW a p) rest
      | 7 => arg1 pos (fun a => .movOffW a p) rest
      | 8 => arg0 pos (.movX1W p)
      | 9 => arg0 pos (.movDpDecW p)
      | 10 => arg0 pos (.movDpW p)
      | _ => arg0 pos (.movDpIncW p)
  | 0x9 =>
    if lo < 6 then aluSuffixW pos lo p .cmpWFix .cmpWOff .cmpWSfr .cmpWImm .cmpWA .cmpAW rest
    else if 12 ≤ lo then arg0 pos (.srlWWidth p (fin4Of (lo - 12)))
    else match lo with
      | 6 => arg1 pos (fun a => .movSfrW a p) rest
      | 7 => arg0 pos (.movAW p)
      | 8 => arg2 pos (fun w => .movD16X1W w p) rest
      | 9 => arg2 pos (fun w => .movD16X2W w p) rest
      | 10 => argN7Suffix pos (fun b n => .movN7W b n p) rest
      | _ => arg2 pos (fun w => .movDirW w p) rest
  | 0xA =>
    if lo < 6 then aluSuffixW pos lo p .addWFix .addWOff .addWSfr .addWImm .addWA .addAW rest
    else if 12 ≤ lo then arg0 pos (.rolWWidth p (fin4Of (lo - 12)))
    else match lo with
      | 6 => arg1 pos (.tjnzW p) rest
      | 7 => arg1 pos (.tjzW p) rest
      | 8 => arg0 pos (.divW p)
      | 9 => arg0 pos (.mulW p)
      | 10 => arg0 pos (.movWA p)
      | _ => arg2 pos (.movWImm p) rest
  | 0xB =>
    if lo < 6 then aluSuffixW pos lo p .andWFix .andWOff .andWSfr .andWImm .andWA .andAW rest
    else if 12 ≤ lo then arg0 pos (.rorWWidth p (fin4Of (lo - 12)))
    else if lo = 6 ∧ p = .pr .x1 then arg2 pos .cmpcATadr rest
    else if lo = 7 ∧ p = .pr .x1 then arg2 pos .lcATadr rest
    else u
  | 0xC =>
    if lo < 6 then aluSuffixW pos lo p .orWFix .orWOff .orWSfr .orWImm .orWA .orAW rest
    else match lo with
      | 6 => arg0 pos (.incW p)
      | 7 => arg0 pos (.clrW p)
      | 8 => arg0 pos (.xchgAW p)
      | 9 => arg0 pos (.jInd p)
      | _ => u
  | 0xD =>
    if lo < 6 then aluSuffixW pos lo p .xorWFix .xorWOff .xorWSfr .xorWImm .xorWA .xorAW rest
    else match lo with
      | 6 => arg0 pos (.decW p)
      | 7 => arg0 pos (.fillW p)
      | 8 => arg0 pos (.cmpcAInd p)
      | 9 => arg0 pos (.cmpcbAInd p)
      | 10 => arg0 pos (.lcAInd p)
      | 11 => arg0 pos (.lcbAInd p)
      | _ => u
  | 0xE =>
    if lo < 6 then aluSuffixW pos lo p .sbcWFix .sbcWOff .sbcWSfr .sbcWImm .sbcWA .sbcAW rest
    else if 12 ≤ lo then arg0 pos (.sraWWidth p (fin4Of (lo - 12)))
    else match lo with
      | 6 => arg2 pos (.cmpcAT16 p) rest
      | 7 => arg2 pos (.lcAT16 p) rest
      | 10 =>
        match p with
        | .pr n => arg1 pos (.djnzPrL n) rest
        | .acc | .er _ | .mem _ => u
      | 11 => arg0 pos (.calInd p)
      | _ => u
  | 0xF =>
    if lo < 6 then aluSuffixW pos lo p .adcWFix .adcWOff .adcWSfr .adcWImm .adcWA .adcAW rest
    else match lo with
      | 6 => arg2 pos (.cmpcbAT16 p) rest
      | 7 => arg2 pos (.lcbAT16 p) rest
      | 8 => arg0 pos (.movX1AW p)
      | 9 => arg0 pos (.movX1R0W p)
      | 10 => if p = .pr .x1 then argFar pos .fj rest else u
      | 11 => arg0 pos (.divqW p)
      | _ => u
  | _ => u

/-! ## Suffixes after a byte prefix (R161, column B) -/

/-- The suffix map after a byte prefix other than BC (R161). `pos` counts the prefix's bytes and the suffix byte. -/
noncomputable def suffixB (pos : Nat) (p : BOp) (s : Byte) (rest : List Byte) : Decoded :=
  let lo := s.toNat % 16
  let u : Decoded := arg0 pos (unlistedB p s)
  match s.toNat / 16 with
  | 0x0 => if lo < 8 then arg0 pos (.rbBit p (bitOf lo)) else arg0 pos (.sbBit p (bitOf lo))
  | 0x1 => if lo < 8 then arg0 pos (.mbCBit p (bitOf lo)) else arg0 pos (.mbBitC p (bitOf lo))
  | 0x2 => if lo < 8 then arg1 pos (.jbrBit p (bitOf lo)) rest else arg1 pos (.jbsBit p (bitOf lo)) rest
  | 0x3 => if lo < 8 then arg1 pos (.jbrsBit p (bitOf lo)) rest else arg1 pos (.jbsrBit p (bitOf lo)) rest
  | 0x4 => if lo < 8 then arg0 pos (.bandCBit p (bitOf lo)) else arg0 pos (.bandnCBit p (bitOf lo))
  | 0x5 => if lo < 8 then arg0 pos (.borCBit p (bitOf lo)) else arg0 pos (.bornCBit p (bitOf lo))
  | 0x6 => if lo < 8 then arg0 pos (.bxorCBit p (bitOf lo)) else u
  | 0x7 => if lo < 8 then arg0 pos (.movbRB (r8Of lo) p) else u
  | 0x8 =>
    if lo < 6 then aluSuffixB pos lo p .subbBFix .subbBOff .subbBSfr .subbBImm .subbBA .subbAB rest
    else if 12 ≤ lo then arg0 pos (.sllbBWidth p (fin4Of (lo - 12)))
    else match lo with
      | 6 => arg1 pos (fun a => .movbFixB a p) rest
      | 7 => arg1 pos (fun a => .movbOffB a p) rest
      | 8 => arg0 pos (.movbX1B p)
      | 9 => arg0 pos (.movbDpDecB p)
      | 10 => arg0 pos (.movbDpB p)
      | _ => arg0 pos (.movbDpIncB p)
  | 0x9 =>
    if lo < 6 then aluSuffixB pos lo p .cmpbBFix .cmpbBOff .cmpbBSfr .cmpbBImm .cmpbBA .cmpbAB rest
    else if 12 ≤ lo then arg0 pos (.srlbBWidth p (fin4Of (lo - 12)))
    else match lo with
      | 6 => arg1 pos (fun a => .movbSfrB a p) rest
      | 7 => arg0 pos (.movbAB p)
      | 8 => arg2 pos (fun w => .movbD16X1B w p) rest
      | 9 => arg2 pos (fun w => .movbD16X2B w p) rest
      | 10 => argN7Suffix pos (fun b n => .movbN7B b n p) rest
      | _ => arg2 pos (fun w => .movbDirB w p) rest
  | 0xA =>
    if lo < 6 then aluSuffixB pos lo p .addbBFix .addbBOff .addbBSfr .addbBImm .addbBA .addbAB rest
    else if 12 ≤ lo then arg0 pos (.rolbBWidth p (fin4Of (lo - 12)))
    else match lo with
      | 6 => arg1 pos (.tjnzbB p) rest
      | 7 => arg1 pos (.tjzbB p) rest
      | 8 => arg0 pos (.divbB p)
      | 9 => arg0 pos (.mulbB p)
      | 10 => arg0 pos (.movbBA p)
      | _ => arg1 pos (.movbBImm p) rest
  | 0xB =>
    if lo < 6 then aluSuffixB pos lo p .andbBFix .andbBOff .andbBSfr .andbBImm .andbBA .andbAB rest
    else if 12 ≤ lo then arg0 pos (.rorbBWidth p (fin4Of (lo - 12)))
    else match lo with
      | 6 => if p = .pswl then arg2 pos .cmpcbATadr rest else u
      | 7 => if p = .pswl then arg2 pos .lcbATadr rest else u
      | 8 => arg0 pos (.sbrB p)
      | 9 => arg0 pos (.rbrB p)
      | 10 => arg0 pos (.mbrCB p)
      | _ => arg0 pos (.mbrBC p)
  | 0xC =>
    if lo < 6 then aluSuffixB pos lo p .orbBFix .orbBOff .orbBSfr .orbBImm .orbBA .orbAB rest
    else match lo with
      | 6 => arg0 pos (.incbB p)
      | 7 => arg0 pos (.clrbB p)
      | 8 => arg0 pos (.xchgbAB p)
      | 10 => arg0 pos (.tbrB p)
      | _ => u
  | 0xD =>
    if lo < 6 then aluSuffixB pos lo p .xorbBFix .xorbBOff .xorbBSfr .xorbBImm .xorbBA .xorbAB rest
    else match lo with
      | 6 => arg0 pos (.decbB p)
      | 7 => arg0 pos (.fillbB p)
      | _ => u
  | 0xE =>
    if lo < 6 then aluSuffixB pos lo p .sbcbBFix .sbcbBOff .sbcbBSfr .sbcbBImm .sbcbBA .sbcbAB rest
    else if 12 ≤ lo then arg0 pos (.srabBWidth p (fin4Of (lo - 12)))
    else if lo = 10 then arg1 pos (.djnzB p) rest
    else u
  | _ =>
    if lo < 6 then aluSuffixB pos lo p .adcbBFix .adcbBOff .adcbBSfr .adcbBImm .adcbBA .adcbAB rest
    else match lo with
      | 8 => arg0 pos (.movbX1AB p)
      | 9 => arg0 pos (.movbX1R0B p)
      | 12 => if p = .pswl then arg1 pos .jlts rest else u
      | 13 => if p = .pswl then arg1 pos .jles rest else u
      | 14 => if p = .pswl then arg1 pos .jgts rest else u
      | 15 => if p = .pswl then arg1 pos .jges rest else u
      | _ => u

/-! ## Suffixes after the accumulator prefix BC (R147) -/

/-- The map of R147; `dd` is DD_FETCH (R135 b). -/
noncomputable def suffixBC (dd : Bool) (s : Byte) (rest : List Byte) : Decoded :=
  let lo := s.toNat % 16
  let u : Decoded := arg0 2 (.pfxWA s)
  let w : Fin 4 := fin4Of (lo - 12)
  let d (fw fb : Instr) : Decoded := arg0 2 (if dd then fw else fb)
  match s.toNat / 16 with
  | 0x0 => if lo < 8 then arg0 2 (.rbBit .acc (bitOf lo)) else arg0 2 (.sbBit .acc (bitOf lo))
  | 0x1 => if lo < 8 then arg0 2 (.mbCBit .acc (bitOf lo)) else arg0 2 (.mbBitC .acc (bitOf lo))
  | 0x2 => if lo < 8 then arg1 2 (.jbrBit .acc (bitOf lo)) rest else arg1 2 (.jbsBit .acc (bitOf lo)) rest
  | 0x3 => if lo < 8 then arg1 2 (.jbrsBit .acc (bitOf lo)) rest else arg1 2 (.jbsrBit .acc (bitOf lo)) rest
  | 0x4 => if lo < 8 then arg0 2 (.bandCBit .acc (bitOf lo)) else arg0 2 (.bandnCBit .acc (bitOf lo))
  | 0x5 => if lo < 8 then arg0 2 (.borCBit .acc (bitOf lo)) else arg0 2 (.bornCBit .acc (bitOf lo))
  | 0x6 => if lo < 8 then arg0 2 (.bxorCBit .acc (bitOf lo)) else u
  | 0x8 => if 12 ≤ lo then d (.sllAWidth w) (.sllbAWidth w) else u
  | 0x9 =>
    if 12 ≤ lo then d (.srlAWidth w) (.srlbAWidth w)
    else if lo = 9 then argDD2 dd 2 .stAD16X2 .stbAD16X2 rest
    else u
  | 0xA =>
    if 12 ≤ lo then d (.rolAWidth w) (.rolbAWidth w)
    else match lo with
      | 6 => argDD1 dd 2 .tjnzA .tjnzbA rest
      | 7 => argDD1 dd 2 .tjzA .tjzbA rest
      | 9 => d .sqrA .sqrbA
      | _ => u
  | 0xB => if 12 ≤ lo then d (.rorAWidth w) (.rorbAWidth w) else u
  | 0xC => if lo = 9 then arg0 2 (.jInd .acc) else u
  | 0xD =>
    match lo with
    | 7 => d .fillA .fillbA
    | 10 => arg0 2 (.lcAInd .acc)
    | 11 => arg0 2 (.lcbAInd .acc)
    | _ => u
  | 0xE =>
    if 12 ≤ lo then d (.sraAWidth w) (.srabAWidth w)
    else match lo with
      | 3 => argImm dd 2 .sbcAImm .sbcbAImm rest
      | 7 => arg2 2 (.lcAT16 .acc) rest
      | 10 => arg1 2 (.djnzB .acc) rest
      | 11 => arg0 2 (.calInd .acc)
      | _ => u
  | 0xF =>
    match lo with
    | 3 => argImm dd 2 .adcAImm .adcbAImm rest
    | 7 => arg2 2 (.lcbAT16 .acc) rest
    | _ => u
  | _ => u

/-! ## Prefixes (R140, R141): the operand, then the suffix map -/

/-- A word prefix of n bytes, then its suffix. -/
noncomputable def thenW (n : Nat) (p : WOp) (rest : List Byte) : Decoded :=
  match rest with
  | s :: t => suffixW (n + 1) p s t
  | [] => .error .truncated

/-- A byte prefix of n bytes, then its suffix. -/
noncomputable def thenB (n : Nat) (p : BOp) (rest : List Byte) : Decoded :=
  match rest with
  | s :: t => suffixB (n + 1) p s t
  | [] => .error .truncated

/-- A memory prefix with its own operand bytes: the prefixes A0 to AB and B0 to BB have the same low nibbles. `k` goes on
with the length so far, the mode and the remaining bytes. -/
def memPrefix (lo : Nat) (rest : List Byte) (k : Nat → Mode → List Byte → Decoded) : Decoded :=
  match lo with
  | 0 => k 1 .x1 rest
  | 1 => k 1 .dpDec rest
  | 2 => k 1 .dp rest
  | 3 => k 1 .dpInc rest
  | 4 => match rest with | a :: t => k 2 (.fix a) t | [] => .error .truncated
  | 5 => match rest with | a :: t => k 2 (.off a) t | [] => .error .truncated
  | 6 => match rest with | a :: t => k 2 (.sfr a) t | [] => .error .truncated
  | 7 => match rest with | l :: h :: t => k 3 (.dir (mkWord h l)) t | _ => .error .truncated
  | 8 => match rest with | l :: h :: t => k 3 (.d16x1 (mkWord h l)) t | _ => .error .truncated
  | 9 => match rest with | l :: h :: t => k 3 (.d16x2 (mkWord h l)) t | _ => .error .truncated
  | 10 => k 1 .x1A rest
  | _ => k 1 .x1R0 rest

/-- The prefixes 8B and 9B: bit 7 of the next byte is 0 for DP and 1 for USP (R140, R141). -/
def n7Prefix (rest : List Byte) (k : Nat → Mode → List Byte → Decoded) : Decoded :=
  match rest with
  | b :: t => k 2 (if bit7 b then .n7usp (low7 b) else .n7dp (low7 b)) t
  | [] => .error .truncated

/-! ## Native codes (R160), by the high nibble of the first byte -/

/-- What REGMASK says of a mask byte (R241). -/
def maskLookup : List RegMaskEntry → Byte → Option (StackDir × RegList)
  | [], _ => none
  | e :: t, m => if e.mask = m then some (e.dir, e.list) else maskLookup t m

/-- The mask byte REGMASK gives a direction and a list. -/
def maskOf : List RegMaskEntry → StackDir → RegList → Option Byte
  | [], _, _ => none
  | e :: t, d, l => if e.dir = d ∧ e.list = l then some e.mask else maskOf t d l

/-- Cadr11 bits 10 to 8, less 4, that ACAL_HI gives a first byte (R150). -/
def acalHiAt : List (Byte × Fin 4) → Byte → Option (Fin 4)
  | [], _ => none
  | (b, h) :: t, x => if b = x then some h else acalHiAt t x

/-- 06 mask: PUSHS or POPS of a register list by the device's REGMASK (R156, R241, log 18). -/
noncomputable def decodeMask (dev : Device) (rest : List Byte) : Decoded :=
  match dev.regMask with
  | none => .error .regMaskNotGiven
  | some tbl =>
    match rest with
    | [] => .error .truncated
    | m :: _ =>
      match maskLookup tbl m with
      | some (.push, l) => .ok (.pushs l, 2)
      | some (.pop, l) => .ok (.pops l, 2)
      | none => .error .invalidMask

/-- 07: FCAL before 08, FRT before 09, else PUSHS A (R163, D21, log 24). -/
noncomputable def decode07 (rest : List Byte) : Decoded :=
  match rest with
  | b :: t => if b = 0x08 then argFar 2 .fcal t else if b = 0x09 then arg0 2 .frt else arg0 1 .pushsA
  | [] => arg0 1 .pushsA

/-- The SBA codes: bits 7:6 of the second byte select SB, RB, JBS or JBR, bits 5:0 the byte (R152). -/
def decodeSba (bit : Fin 8) (fsb frb : Fin 8 → BitVec 6 → Instr) (fjbs fjbr : Fin 8 → BitVec 6 → Byte → Instr)
    (rest : List Byte) : Decoded :=
  match rest with
  | b :: t =>
    let k := low6 b
    match b.toNat / 64 with
    | 0 => arg0 2 (fsb bit k)
    | 1 => arg0 2 (frb bit k)
    | 2 => arg1 2 (fjbs bit k) t
    | _ => arg1 2 (fjbr bit k) t
  | [] => .error .truncated

/-- First bytes 00 to 0F. -/
noncomputable def decode0 (dev : Device) (dd : Bool) (lo : Nat) (rest : List Byte) : Decoded :=
  match lo with
  | 0 => arg0 1 .nop
  | 1 => arg0 1 .rt
  | 2 => arg0 1 .rti
  | 3 => arg2 1 .jCadr rest
  | 4 => arg1 1 .sj rest
  | 5 => arg1 1 (fun b => if bit7 b then .djnzR5 (low7 b) else .djnzR4 (low7 b)) rest
  | 6 => decodeMask dev rest
  | 7 => decode07 rest
  | _ => argReg dd (lo - 8) .subAEr .subAPr .subbAR

/-- First bytes 10 to 1F. -/
def decode1 (dd : Bool) (lo : Nat) (rest : List Byte) : Decoded :=
  if lo < 8 then arg1 1 (.movbRImm (r8Of lo)) rest else argReg dd (lo - 8) .cmpAEr .cmpAPr .cmpbAR

/-- First bytes 20 to 2F. -/
def decode2 (dd : Bool) (lo : Nat) (rest : List Byte) : Decoded :=
  if lo < 4 then arg2 1 (.movPrImm (prOf lo)) rest
  else if lo < 8 then arg2 1 (.movErImm (erOf (lo - 4))) rest
  else argReg dd (lo - 8) .addAEr .addAPr .addbAR

/-- First bytes 30 to 3F. -/
def decode3 (dd : Bool) (lo : Nat) (rest : List Byte) : Decoded :=
  match lo with
  | 0 => arg0 1 (if dd then .stAX1 else .stbAX1)
  | 1 => arg0 1 (if dd then .stADpDec else .stbADpDec)
  | 2 => arg0 1 (if dd then .stADp else .stbADp)
  | 3 => arg0 1 (if dd then .stADpInc else .stbADpInc)
  | 4 => argDD1 dd 1 .stAFix .stbAFix rest
  | 5 => argDD1 dd 1 .stAOff .stbAOff rest
  | 6 => argDD1 dd 1 .stASfr .stbASfr rest
  | 7 => argDD2 dd 1 .stADir .stbADir rest
  | _ => argReg dd (lo - 8) .stAEr .stAPr .stbAR

/-- First bytes 40 to 4F: 48 to 4F are the sbaoff codes, also where ACAL's formula collides (R150, D8). -/
noncomputable def decode4 (lo : Nat) (rest : List Byte) : Decoded :=
  if lo < 4 then arg0 1 (.incPr (prOf lo))
  else if lo < 8 then arg1 1 (.acal (bitOf (lo - 4))) rest
  else decodeSba (bitOf lo) .sbSbaoff .rbSbaoff .jbsSbaoff .jbrSbaoff rest

/-- First bytes 50 to 5F: 54 to 57 are unassigned (R165), or ACAL to 1400H-17FFH where ACAL_HI says so (D8, log 19). -/
noncomputable def decode5 (dev : Device) (lo : Nat) (rest : List Byte) : Decoded :=
  if lo < 4 then arg0 1 (.decPr (prOf lo))
  else if lo < 8 then
    match acalHiAt dev.acalHi (BitVec.ofNat 8 (0x50 + lo)) with
    | some h => arg1 1 (.acal (bitOf (4 + h.val))) rest
    | none => arg0 1 (.unassigned (fin4Of (lo - 4)))
  else decodeSba (bitOf lo) .sbSbafix .rbSbafix .jbsSbafix .jbrSbafix rest

/-- First bytes 60 to 6F: the register prefixes. -/
noncomputable def decode6 (lo : Nat) (rest : List Byte) : Decoded :=
  if lo < 4 then thenW 1 (.pr (prOf lo)) rest
  else if lo < 8 then thenW 1 (.er (erOf (lo - 4))) rest
  else thenB 1 (.r (r8Of (lo - 8))) rest

/-- First bytes 70 to 7F. -/
def decode7 (lo : Nat) : Decoded :=
  if lo < 4 then arg0 1 (.lAPr (prOf lo))
  else if lo < 8 then arg0 1 (.lAEr (erOf (lo - 4)))
  else arg0 1 (.lbAR (r8Of (lo - 8)))

/-- First bytes 80 to 8F. -/
noncomputable def decode8 (dd : Bool) (lo : Nat) (rest : List Byte) : Decoded :=
  match lo with
  | 0 => arg0 1 .lAX1
  | 1 => arg0 1 .lADpDec
  | 2 => arg0 1 .lADp
  | 3 => arg0 1 .lADpInc
  | 4 => arg1 1 .lAFix rest
  | 5 => arg1 1 .lAOff rest
  | 6 => arg1 1 .lASfr rest
  | 7 => arg2 1 .lADir rest
  | 8 => arg2 1 .lAD16X1 rest
  | 9 => argN7Native 1 .lAN7 rest
  | 10 => thenB 1 .pswl rest
  | 11 => n7Prefix rest fun n m t => thenW n (.mem m) t
  | 12 => argDD1 dd 1 .subAFix .subbAFix rest
  | 13 => argDD1 dd 1 .subAOff .subbAOff rest
  | 14 => argImm dd 1 .subAImm .subbAImm rest
  | _ => arg0 1 (if dd then .sllA else .sllbA)

/-- First bytes 90 to 9F. -/
noncomputable def decode9 (dd : Bool) (lo : Nat) (rest : List Byte) : Decoded :=
  match lo with
  | 0 => arg0 1 .lbAX1
  | 1 => arg0 1 .lbADpDec
  | 2 => arg0 1 .lbADp
  | 3 => arg0 1 .lbADpInc
  | 4 => arg1 1 .lbAFix rest
  | 5 => arg1 1 .lbAOff rest
  | 6 => arg1 1 .lbASfr rest
  | 7 => arg2 1 .lbADir rest
  | 8 => arg2 1 .lbAD16X1 rest
  | 9 => argN7Native 1 .lbAN7 rest
  | 10 => thenB 1 .pswh rest
  | 11 => n7Prefix rest fun n m t => thenB n (.mem m) t
  | 12 => argDD1 dd 1 .cmpAFix .cmpbAFix rest
  | 13 => argDD1 dd 1 .cmpAOff .cmpbAOff rest
  | 14 => argImm dd 1 .cmpAImm .cmpbAImm rest
  | _ => arg0 1 (if dd then .srlA else .srlbA)

/-- First bytes A0 to AF. -/
noncomputable def decodeA (dd : Bool) (lo : Nat) (rest : List Byte) : Decoded :=
  match lo with
  | 12 => argDD1 dd 1 .addAFix .addbAFix rest
  | 13 => argDD1 dd 1 .addAOff .addbAOff rest
  | 14 => argImm dd 1 .addAImm .addbAImm rest
  | 15 => arg0 1 (if dd then .rolA else .rolbA)
  | _ => memPrefix lo rest fun n m t => thenW n (.mem m) t

/-- First bytes B0 to BF. -/
noncomputable def decodeB (dd : Bool) (lo : Nat) (rest : List Byte) : Decoded :=
  match lo with
  | 12 => match rest with | s :: t => suffixBC dd s t | [] => .error .truncated
  | 13 => argDD1 dd 1 .andAOff .andbAOff rest
  | 14 => argImm dd 1 .andAImm .andbAImm rest
  | 15 => arg0 1 (if dd then .rorA else .rorbA)
  | _ => memPrefix lo rest fun n m t => thenB n (.mem m) t

/-- First bytes C0 to CF. -/
noncomputable def decodeC (dd : Bool) (lo : Nat) (rest : List Byte) : Decoded :=
  match lo with
  | 4 => arg12 1 .cmpFixImm rest
  | 5 => arg12 1 .cmpOffImm rest
  | 6 => arg12 1 .movSfrImm rest
  | 7 => arg12 1 .movOffImm rest
  | 8 => argDD2 dd 1 .stAD16X1 .stbAD16X1 rest
  | 9 => argN7Native 1 (if dd then .stAN7 else .stbAN7) rest
  | 10 => arg0 1 .rc
  | 11 => arg0 1 .sc
  | 12 => arg0 1 (if dd then .incA else .incbA)
  | 13 => argDD1 dd 1 .orAOff .orbAOff rest
  | 14 => argImm dd 1 .orAImm .orbAImm rest
  | 15 => arg0 1 (if dd then .negA else .negbA)
  | _ => arg0 1 (.incbR (fin4Of lo))

/-- First bytes D0 to DF. -/
noncomputable def decodeD (dd : Bool) (lo : Nat) (rest : List Byte) : Decoded :=
  match lo with
  | 4 => arg11 1 .cmpbFixImm rest
  | 5 => arg11 1 .cmpbOffImm rest
  | 6 => arg11 1 .movbSfrImm rest
  | 7 => arg11 1 .movbOffImm rest
  | 8 => arg0 1 .rdd
  | 9 => arg0 1 .sdd
  | 10 => arg0 1 .di
  | 11 => arg0 1 .ei
  | 12 => arg0 1 (if dd then .decA else .decbA)
  | 13 => argDD1 dd 1 .xorAOff .xorbAOff rest
  | 14 => argImm dd 1 .xorAImm .xorbAImm rest
  | 15 => arg0 1 .swap
  | _ => arg0 1 (.decbR (fin4Of lo))

/-- First bytes F0 to FF. -/
noncomputable def decodeF (lo : Nat) (rest : List Byte) : Decoded :=
  match lo with
  | 0 => arg1 1 .jgt rest
  | 1 => arg1 1 .jeq rest
  | 2 => arg1 1 .jlt rest
  | 3 => arg1 1 .jns rest
  | 4 => arg1 1 .jps rest
  | 5 => arg1 1 .jge rest
  | 6 => arg1 1 .jne rest
  | 7 => arg1 1 .jle rest
  | 8 => arg2 1 .lAImm rest
  | 9 => arg1 1 .lbAImm rest
  | 10 => arg0 1 .clrA
  | 11 => arg0 1 .clrbA
  | 12 => arg0 1 .extnd
  | 13 => arg0 1 .cplC
  | 14 => arg2 1 .calCadr rest
  | _ => arg0 1 .brk

/-- The decoder (R170): the instruction at the start of the bytes and its length, under DD_FETCH = dd (R135). -/
noncomputable def decode (dev : Device) (dd : Bool) (bytes : List Byte) : Decoded :=
  match bytes with
  | [] => .error .truncated
  | b :: rest =>
    let lo := b.toNat % 16
    match b.toNat / 16 with
    | 0x0 => decode0 dev dd lo rest
    | 0x1 => decode1 dd lo rest
    | 0x2 => decode2 dd lo rest
    | 0x3 => decode3 dd lo rest
    | 0x4 => decode4 lo rest
    | 0x5 => decode5 dev lo rest
    | 0x6 => decode6 lo rest
    | 0x7 => decode7 lo
    | 0x8 => decode8 dd lo rest
    | 0x9 => decode9 dd lo rest
    | 0xA => decodeA dd lo rest
    | 0xB => decodeB dd lo rest
    | 0xC => decodeC dd lo rest
    | 0xD => decodeD dd lo rest
    | 0xE => arg0 1 (.vcal (Fin.ofNat 16 lo))
    | _ => decodeF lo rest

/-- The bytes of an opcode-table word: bit 0 is the least significant bit of the first byte, bits from nbits up are 0, six
bytes, the longest instruction (R130). -/
def tableBytes (nbits w : Nat) : List Byte :=
  let v := w % 2 ^ nbits
  [BitVec.ofNat 8 v, BitVec.ofNat 8 (v / 0x100), BitVec.ofNat 8 (v / 0x10000), BitVec.ofNat 8 (v / 0x1000000),
    BitVec.ofNat 8 (v / 0x100000000), BitVec.ofNat 8 (v / 0x10000000000)]

/-- The instruction the decoder reads from an opcode-table word, with DD_FETCH and the device as after reset (log 34). -/
noncomputable def decodeTableWord (nbits w : Nat) : Option Instr :=
  match decode Device.default false (tableBytes nbits w) with
  | .ok (i, _) => some i
  | .error _ => none

/-! ## The encoder -/

/-- A code with a register number, a bit position or a width code added (R13). -/
def codePlus (base n : Nat) : Byte := BitVec.ofNat 8 (base + n)

/-- The two bytes of a 16-bit field, low byte first (R132). -/
def lohi (w : Word) : List Byte := [loByte w, hiByte w]

/-- The displacement byte of the native n7 codes: bit 7 is 0 for USP (R160). -/
def n7NativeByte (b : N7Base) (n : BitVec 7) : Byte :=
  match b with
  | .usp => n7Byte false n
  | .dp => n7Byte true n

/-- The displacement byte of the n7 prefixes and the MOV suffix 9A: bit 7 is 0 for DP (R140, R162). -/
def n7SuffixByte (b : N7Base) (n : BitVec 7) : Byte :=
  match b with
  | .dp => n7Byte false n
  | .usp => n7Byte true n

/-- The second byte of an SBA code: the operation in bits 7:6, the byte offset in bits 5:0 (R152). -/
def sbaByte (op : BitVec 2) (k : BitVec 6) : Byte := op ++ k

/-- The bytes of a memory prefix with base A0 (word) or B0 (byte), and of the n7 prefix with its own code (R140, R141). -/
def encodeMode (base n7 : Nat) (m : Mode) : List Byte :=
  match m with
  | .x1 => [codePlus base 0]
  | .dpDec => [codePlus base 1]
  | .dp => [codePlus base 2]
  | .dpInc => [codePlus base 3]
  | .fix a => [codePlus base 4, a]
  | .off a => [codePlus base 5, a]
  | .sfr a => [codePlus base 6, a]
  | .dir w => codePlus base 7 :: lohi w
  | .d16x1 w => codePlus base 8 :: lohi w
  | .d16x2 w => codePlus base 9 :: lohi w
  | .x1A => [codePlus base 10]
  | .x1R0 => [codePlus base 11]
  | .n7dp n => [codePlus n7 0, n7SuffixByte .dp n]
  | .n7usp n => [codePlus n7 0, n7SuffixByte .usp n]

/-- The bytes of a word prefix (R140). -/
def encodeW (p : WOp) : List Byte :=
  match p with
  | .acc => [0xBC]
  | .er n => [codePlus 0x64 n.num]
  | .pr n => [codePlus 0x60 n.num]
  | .mem m => encodeMode 0xA0 0x8B m

/-- The bytes of a byte prefix (R141). -/
def encodeB (p : BOp) : List Byte :=
  match p with
  | .acc => [0xBC]
  | .r n => [codePlus 0x68 n.num]
  | .pswl => [0x8A]
  | .pswh => [0x9A]
  | .mem m => encodeMode 0xB0 0x9B m

/-- The first byte of ACAL: 44 to 47 for Cadr11 bits 10:8 = 0 to 3, and for 4 to 7 the free first byte that ACAL_HI gives; 00
where it gives none, which no well-formed instruction meets (R150, D8, log 19). -/
def acalByte (dev : Device) (h : Fin 8) : Byte :=
  if h.val < 4 then codePlus 0x44 h.val
  else
    match [0, 1, 2, 3].find? fun n => decide (acalHiAt dev.acalHi (codePlus 0x54 n) = some (fin4Of (h.val - 4))) with
    | some n => codePlus 0x54 n
    | none => 0

/-- The mask byte of PUSHS and POPS under the device's REGMASK; 00 where it gives none, which no well-formed instruction
meets (R241). -/
def maskByte (dev : Device) (d : StackDir) (l : RegList) : Byte :=
  match dev.regMask with
  | none => 0
  | some tbl =>
    match maskOf tbl d l with
    | some m => m
    | none => 0

/-- The encoding of a well-formed instruction (R132, R140, R141, R147, R152, R160, R161). -/
def encode (dev : Device) (i : Instr) : List Byte :=
  match i with
  | .lAImm v => [0xF8, loByte v, hiByte v]
  | .lAEr n => [codePlus 0x74 n.num]
  | .lAPr n => [codePlus 0x70 n.num]
  | .lAX1 => [0x80]
  | .lbAX1 => [0x90]
  | .lADpDec => [0x81]
  | .lbADpDec => [0x91]
  | .lADp => [0x82]
  | .lbADp => [0x92]
  | .lADpInc => [0x83]
  | .lbADpInc => [0x93]
  | .lAFix a => [0x84, a]
  | .lbAFix a => [0x94, a]
  | .lAOff a => [0x85, a]
  | .lbAOff a => [0x95, a]
  | .lASfr a => [0x86, a]
  | .lbASfr a => [0x96, a]
  | .lADir w => [0x87, loByte w, hiByte w]
  | .lbADir w => [0x97, loByte w, hiByte w]
  | .lAD16X1 w => [0x88, loByte w, hiByte w]
  | .lbAD16X1 w => [0x98, loByte w, hiByte w]
  | .lAN7 b n => [0x89, n7NativeByte b n]
  | .lbAN7 b n => [0x99, n7NativeByte b n]
  | .lbAImm v => [0xF9, v]
  | .lbAR n => [codePlus 0x78 n.num]
  | .stAEr n => [codePlus 0x38 n.num]
  | .stAPr n => [codePlus 0x3C n.num]
  | .stbAR n => [codePlus 0x38 n.num]
  | .stAX1 => [0x30]
  | .stbAX1 => [0x30]
  | .stADpDec => [0x31]
  | .stbADpDec => [0x31]
  | .stADp => [0x32]
  | .stbADp => [0x32]
  | .stADpInc => [0x33]
  | .stbADpInc => [0x33]
  | .stAFix a => [0x34, a]
  | .stbAFix a => [0x34, a]
  | .stAOff a => [0x35, a]
  | .stbAOff a => [0x35, a]
  | .stASfr a => [0x36, a]
  | .stbASfr a => [0x36, a]
  | .stADir w => [0x37, loByte w, hiByte w]
  | .stbADir w => [0x37, loByte w, hiByte w]
  | .stAD16X1 w => [0xC8, loByte w, hiByte w]
  | .stbAD16X1 w => [0xC8, loByte w, hiByte w]
  | .stAN7 b n => [0xC9, n7NativeByte b n]
  | .stbAN7 b n => [0xC9, n7NativeByte b n]
  | .stAD16X2 w => [0xBC, 0x99, loByte w, hiByte w]
  | .stbAD16X2 w => [0xBC, 0x99, loByte w, hiByte w]
  | .movPrImm n v => [codePlus 0x20 n.num, loByte v, hiByte v]
  | .movErImm n v => [codePlus 0x24 n.num, loByte v, hiByte v]
  | .movSfrImm a v => [0xC6, a, loByte v, hiByte v]
  | .movOffImm a v => [0xC7, a, loByte v, hiByte v]
  | .movbRImm n v => [codePlus 0x10 n.num, v]
  | .movbSfrImm a v => [0xD6, a, v]
  | .movbOffImm a v => [0xD7, a, v]
  | .clrA => [0xFA]
  | .clrbA => [0xFB]
  | .swap => [0xDF]
  | .movAW p => encodeW p ++ [0x97]
  | .movErW n p => encodeW p ++ [codePlus 0x70 n.num]
  | .movPrW n p => encodeW p ++ [codePlus 0x74 n.num]
  | .movFixW a p => encodeW p ++ [0x86, a]
  | .movOffW a p => encodeW p ++ [0x87, a]
  | .movX1W p => encodeW p ++ [0x88]
  | .movDpDecW p => encodeW p ++ [0x89]
  | .movDpW p => encodeW p ++ [0x8A]
  | .movDpIncW p => encodeW p ++ [0x8B]
  | .movSfrW a p => encodeW p ++ [0x96, a]
  | .movD16X1W w p => encodeW p ++ [0x98, loByte w, hiByte w]
  | .movD16X2W w p => encodeW p ++ [0x99, loByte w, hiByte w]
  | .movN7W b n p => encodeW p ++ [0x9A, n7SuffixByte b n]
  | .movDirW w p => encodeW p ++ [0x9B, loByte w, hiByte w]
  | .movX1AW p => encodeW p ++ [0xF8]
  | .movX1R0W p => encodeW p ++ [0xF9]
  | .movWA p => encodeW p ++ [0xAA]
  | .movWImm p v => encodeW p ++ [0xAB, loByte v, hiByte v]
  | .movbAB p => encodeB p ++ [0x97]
  | .movbRB n p => encodeB p ++ [codePlus 0x70 n.num]
  | .movbFixB a p => encodeB p ++ [0x86, a]
  | .movbOffB a p => encodeB p ++ [0x87, a]
  | .movbX1B p => encodeB p ++ [0x88]
  | .movbDpDecB p => encodeB p ++ [0x89]
  | .movbDpB p => encodeB p ++ [0x8A]
  | .movbDpIncB p => encodeB p ++ [0x8B]
  | .movbSfrB a p => encodeB p ++ [0x96, a]
  | .movbD16X1B w p => encodeB p ++ [0x98, loByte w, hiByte w]
  | .movbD16X2B w p => encodeB p ++ [0x99, loByte w, hiByte w]
  | .movbN7B b n p => encodeB p ++ [0x9A, n7SuffixByte b n]
  | .movbDirB w p => encodeB p ++ [0x9B, loByte w, hiByte w]
  | .movbX1AB p => encodeB p ++ [0xF8]
  | .movbX1R0B p => encodeB p ++ [0xF9]
  | .movbBA p => encodeB p ++ [0xAA]
  | .movbBImm p v => encodeB p ++ [0xAB, v]
  | .clrW p => encodeW p ++ [0xC7]
  | .clrbB p => encodeB p ++ [0xC7]
  | .fillA => [0xBC, 0xD7]
  | .fillbA => [0xBC, 0xD7]
  | .fillW p => encodeW p ++ [0xD7]
  | .fillbB p => encodeB p ++ [0xD7]
  | .xchgAW p => encodeW p ++ [0xC8]
  | .xchgbAB p => encodeB p ++ [0xC8]
  | .pushsA => [0x07]
  | .pushs l => [0x06, maskByte dev .push l]
  | .pops l => [0x06, maskByte dev .pop l]
  | .sllA => [0x8F]
  | .sllbA => [0x8F]
  | .sllAWidth k => [0xBC, codePlus 0x8C k.val]
  | .sllbAWidth k => [0xBC, codePlus 0x8C k.val]
  | .sllWWidth p k => encodeW p ++ [codePlus 0x8C k.val]
  | .sllbBWidth p k => encodeB p ++ [codePlus 0x8C k.val]
  | .srlA => [0x9F]
  | .srlbA => [0x9F]
  | .srlAWidth k => [0xBC, codePlus 0x9C k.val]
  | .srlbAWidth k => [0xBC, codePlus 0x9C k.val]
  | .srlWWidth p k => encodeW p ++ [codePlus 0x9C k.val]
  | .srlbBWidth p k => encodeB p ++ [codePlus 0x9C k.val]
  | .sraAWidth k => [0xBC, codePlus 0xEC k.val]
  | .srabAWidth k => [0xBC, codePlus 0xEC k.val]
  | .sraWWidth p k => encodeW p ++ [codePlus 0xEC k.val]
  | .srabBWidth p k => encodeB p ++ [codePlus 0xEC k.val]
  | .rolA => [0xAF]
  | .rolbA => [0xAF]
  | .rolAWidth k => [0xBC, codePlus 0xAC k.val]
  | .rolbAWidth k => [0xBC, codePlus 0xAC k.val]
  | .rolWWidth p k => encodeW p ++ [codePlus 0xAC k.val]
  | .rolbBWidth p k => encodeB p ++ [codePlus 0xAC k.val]
  | .rorA => [0xBF]
  | .rorbA => [0xBF]
  | .rorAWidth k => [0xBC, codePlus 0xBC k.val]
  | .rorbAWidth k => [0xBC, codePlus 0xBC k.val]
  | .rorWWidth p k => encodeW p ++ [codePlus 0xBC k.val]
  | .rorbBWidth p k => encodeB p ++ [codePlus 0xBC k.val]
  | .incA => [0xCC]
  | .incbA => [0xCC]
  | .incPr n => [codePlus 0x40 n.num]
  | .incbR n => [codePlus 0xC0 n.val]
  | .incW p => encodeW p ++ [0xC6]
  | .incbB p => encodeB p ++ [0xC6]
  | .decA => [0xDC]
  | .decbA => [0xDC]
  | .decPr n => [codePlus 0x50 n.num]
  | .decbR n => [codePlus 0xD0 n.val]
  | .decW p => encodeW p ++ [0xD6]
  | .decbB p => encodeB p ++ [0xD6]
  | .addAEr n => [codePlus 0x28 n.num]
  | .addAPr n => [codePlus 0x2C n.num]
  | .addbAR n => [codePlus 0x28 n.num]
  | .addAFix a => [0xAC, a]
  | .addbAFix a => [0xAC, a]
  | .addAOff a => [0xAD, a]
  | .addbAOff a => [0xAD, a]
  | .addAImm v => [0xAE, loByte v, hiByte v]
  | .addbAImm v => [0xAE, v]
  | .addAW p => encodeW p ++ [0xA5]
  | .addbAB p => encodeB p ++ [0xA5]
  | .addWFix p a => encodeW p ++ [0xA0, a]
  | .addbBFix p a => encodeB p ++ [0xA0, a]
  | .addWOff p a => encodeW p ++ [0xA1, a]
  | .addbBOff p a => encodeB p ++ [0xA1, a]
  | .addWSfr p a => encodeW p ++ [0xA2, a]
  | .addbBSfr p a => encodeB p ++ [0xA2, a]
  | .addWImm p v => encodeW p ++ [0xA3, loByte v, hiByte v]
  | .addbBImm p v => encodeB p ++ [0xA3, v]
  | .addWA p => encodeW p ++ [0xA4]
  | .addbBA p => encodeB p ++ [0xA4]
  | .adcAImm v => [0xBC, 0xF3, loByte v, hiByte v]
  | .adcbAImm v => [0xBC, 0xF3, v]
  | .adcAW p => encodeW p ++ [0xF5]
  | .adcbAB p => encodeB p ++ [0xF5]
  | .adcWFix p a => encodeW p ++ [0xF0, a]
  | .adcbBFix p a => encodeB p ++ [0xF0, a]
  | .adcWOff p a => encodeW p ++ [0xF1, a]
  | .adcbBOff p a => encodeB p ++ [0xF1, a]
  | .adcWSfr p a => encodeW p ++ [0xF2, a]
  | .adcbBSfr p a => encodeB p ++ [0xF2, a]
  | .adcWImm p v => encodeW p ++ [0xF3, loByte v, hiByte v]
  | .adcbBImm p v => encodeB p ++ [0xF3, v]
  | .adcWA p => encodeW p ++ [0xF4]
  | .adcbBA p => encodeB p ++ [0xF4]
  | .subAEr n => [codePlus 0x08 n.num]
  | .subAPr n => [codePlus 0x0C n.num]
  | .subbAR n => [codePlus 0x08 n.num]
  | .subAFix a => [0x8C, a]
  | .subbAFix a => [0x8C, a]
  | .subAOff a => [0x8D, a]
  | .subbAOff a => [0x8D, a]
  | .subAImm v => [0x8E, loByte v, hiByte v]
  | .subbAImm v => [0x8E, v]
  | .subAW p => encodeW p ++ [0x85]
  | .subbAB p => encodeB p ++ [0x85]
  | .subWFix p a => encodeW p ++ [0x80, a]
  | .subbBFix p a => encodeB p ++ [0x80, a]
  | .subWOff p a => encodeW p ++ [0x81, a]
  | .subbBOff p a => encodeB p ++ [0x81, a]
  | .subWSfr p a => encodeW p ++ [0x82, a]
  | .subbBSfr p a => encodeB p ++ [0x82, a]
  | .subWImm p v => encodeW p ++ [0x83, loByte v, hiByte v]
  | .subbBImm p v => encodeB p ++ [0x83, v]
  | .subWA p => encodeW p ++ [0x84]
  | .subbBA p => encodeB p ++ [0x84]
  | .sbcAImm v => [0xBC, 0xE3, loByte v, hiByte v]
  | .sbcbAImm v => [0xBC, 0xE3, v]
  | .sbcAW p => encodeW p ++ [0xE5]
  | .sbcbAB p => encodeB p ++ [0xE5]
  | .sbcWFix p a => encodeW p ++ [0xE0, a]
  | .sbcbBFix p a => encodeB p ++ [0xE0, a]
  | .sbcWOff p a => encodeW p ++ [0xE1, a]
  | .sbcbBOff p a => encodeB p ++ [0xE1, a]
  | .sbcWSfr p a => encodeW p ++ [0xE2, a]
  | .sbcbBSfr p a => encodeB p ++ [0xE2, a]
  | .sbcWImm p v => encodeW p ++ [0xE3, loByte v, hiByte v]
  | .sbcbBImm p v => encodeB p ++ [0xE3, v]
  | .sbcWA p => encodeW p ++ [0xE4]
  | .sbcbBA p => encodeB p ++ [0xE4]
  | .cmpAEr n => [codePlus 0x18 n.num]
  | .cmpAPr n => [codePlus 0x1C n.num]
  | .cmpbAR n => [codePlus 0x18 n.num]
  | .cmpAFix a => [0x9C, a]
  | .cmpbAFix a => [0x9C, a]
  | .cmpAOff a => [0x9D, a]
  | .cmpbAOff a => [0x9D, a]
  | .cmpAImm v => [0x9E, loByte v, hiByte v]
  | .cmpbAImm v => [0x9E, v]
  | .cmpAW p => encodeW p ++ [0x95]
  | .cmpbAB p => encodeB p ++ [0x95]
  | .cmpWFix p a => encodeW p ++ [0x90, a]
  | .cmpbBFix p a => encodeB p ++ [0x90, a]
  | .cmpWOff p a => encodeW p ++ [0x91, a]
  | .cmpbBOff p a => encodeB p ++ [0x91, a]
  | .cmpWSfr p a => encodeW p ++ [0x92, a]
  | .cmpbBSfr p a => encodeB p ++ [0x92, a]
  | .cmpWImm p v => encodeW p ++ [0x93, loByte v, hiByte v]
  | .cmpbBImm p v => encodeB p ++ [0x93, v]
  | .cmpWA p => encodeW p ++ [0x94]
  | .cmpbBA p => encodeB p ++ [0x94]
  | .cmpFixImm a v => [0xC4, a, loByte v, hiByte v]
  | .cmpOffImm a v => [0xC5, a, loByte v, hiByte v]
  | .cmpbFixImm a v => [0xD4, a, v]
  | .cmpbOffImm a v => [0xD5, a, v]
  | .negA => [0xCF]
  | .negbA => [0xCF]
  | .mulW p => encodeW p ++ [0xA9]
  | .mulbB p => encodeB p ++ [0xA9]
  | .sqrA => [0xBC, 0xA9]
  | .sqrbA => [0xBC, 0xA9]
  | .divW p => encodeW p ++ [0xA8]
  | .divbB p => encodeB p ++ [0xA8]
  | .divqW p => encodeW p ++ [0xFB]
  | .andAOff a => [0xBD, a]
  | .andbAOff a => [0xBD, a]
  | .andAImm v => [0xBE, loByte v, hiByte v]
  | .andbAImm v => [0xBE, v]
  | .andAW p => encodeW p ++ [0xB5]
  | .andbAB p => encodeB p ++ [0xB5]
  | .andWFix p a => encodeW p ++ [0xB0, a]
  | .andbBFix p a => encodeB p ++ [0xB0, a]
  | .andWOff p a => encodeW p ++ [0xB1, a]
  | .andbBOff p a => encodeB p ++ [0xB1, a]
  | .andWSfr p a => encodeW p ++ [0xB2, a]
  | .andbBSfr p a => encodeB p ++ [0xB2, a]
  | .andWImm p v => encodeW p ++ [0xB3, loByte v, hiByte v]
  | .andbBImm p v => encodeB p ++ [0xB3, v]
  | .andWA p => encodeW p ++ [0xB4]
  | .andbBA p => encodeB p ++ [0xB4]
  | .orAOff a => [0xCD, a]
  | .orbAOff a => [0xCD, a]
  | .orAImm v => [0xCE, loByte v, hiByte v]
  | .orbAImm v => [0xCE, v]
  | .orAW p => encodeW p ++ [0xC5]
  | .orbAB p => encodeB p ++ [0xC5]
  | .orWFix p a => encodeW p ++ [0xC0, a]
  | .orbBFix p a => encodeB p ++ [0xC0, a]
  | .orWOff p a => encodeW p ++ [0xC1, a]
  | .orbBOff p a => encodeB p ++ [0xC1, a]
  | .orWSfr p a => encodeW p ++ [0xC2, a]
  | .orbBSfr p a => encodeB p ++ [0xC2, a]
  | .orWImm p v => encodeW p ++ [0xC3, loByte v, hiByte v]
  | .orbBImm p v => encodeB p ++ [0xC3, v]
  | .orWA p => encodeW p ++ [0xC4]
  | .orbBA p => encodeB p ++ [0xC4]
  | .xorAOff a => [0xDD, a]
  | .xorbAOff a => [0xDD, a]
  | .xorAImm v => [0xDE, loByte v, hiByte v]
  | .xorbAImm v => [0xDE, v]
  | .xorAW p => encodeW p ++ [0xD5]
  | .xorbAB p => encodeB p ++ [0xD5]
  | .xorWFix p a => encodeW p ++ [0xD0, a]
  | .xorbBFix p a => encodeB p ++ [0xD0, a]
  | .xorWOff p a => encodeW p ++ [0xD1, a]
  | .xorbBOff p a => encodeB p ++ [0xD1, a]
  | .xorWSfr p a => encodeW p ++ [0xD2, a]
  | .xorbBSfr p a => encodeB p ++ [0xD2, a]
  | .xorWImm p v => encodeW p ++ [0xD3, loByte v, hiByte v]
  | .xorbBImm p v => encodeB p ++ [0xD3, v]
  | .xorWA p => encodeW p ++ [0xD4]
  | .xorbBA p => encodeB p ++ [0xD4]
  | .lcAInd p => encodeW p ++ [0xDA]
  | .lcAT16 p w => encodeW p ++ [0xE7, loByte w, hiByte w]
  | .lcATadr w => [0x60, 0xB7, loByte w, hiByte w]
  | .lcbAInd p => encodeW p ++ [0xDB]
  | .lcbAT16 p w => encodeW p ++ [0xF7, loByte w, hiByte w]
  | .lcbATadr w => [0x8A, 0xB7, loByte w, hiByte w]
  | .cmpcAInd p => encodeW p ++ [0xD8]
  | .cmpcAT16 p w => encodeW p ++ [0xE6, loByte w, hiByte w]
  | .cmpcATadr w => [0x60, 0xB6, loByte w, hiByte w]
  | .cmpcbAInd p => encodeW p ++ [0xD9]
  | .cmpcbAT16 p w => encodeW p ++ [0xF6, loByte w, hiByte w]
  | .cmpcbATadr w => [0x8A, 0xB6, loByte w, hiByte w]
  | .rbBit p bit => encodeB p ++ [codePlus 0x00 bit.val]
  | .sbBit p bit => encodeB p ++ [codePlus 0x08 bit.val]
  | .mbCBit p bit => encodeB p ++ [codePlus 0x10 bit.val]
  | .mbBitC p bit => encodeB p ++ [codePlus 0x18 bit.val]
  | .bandCBit p bit => encodeB p ++ [codePlus 0x40 bit.val]
  | .bandnCBit p bit => encodeB p ++ [codePlus 0x48 bit.val]
  | .borCBit p bit => encodeB p ++ [codePlus 0x50 bit.val]
  | .bornCBit p bit => encodeB p ++ [codePlus 0x58 bit.val]
  | .bxorCBit p bit => encodeB p ++ [codePlus 0x60 bit.val]
  | .sbSbafix bit k => [codePlus 0x58 bit.val, sbaByte 0 k]
  | .rbSbafix bit k => [codePlus 0x58 bit.val, sbaByte 1 k]
  | .sbSbaoff bit k => [codePlus 0x48 bit.val, sbaByte 0 k]
  | .rbSbaoff bit k => [codePlus 0x48 bit.val, sbaByte 1 k]
  | .sbrB p => encodeB p ++ [0xB8]
  | .rbrB p => encodeB p ++ [0xB9]
  | .tbrB p => encodeB p ++ [0xCA]
  | .mbrCB p => encodeB p ++ [0xBA]
  | .mbrBC p => encodeB p ++ [0xBB]
  | .jbsBit p bit d => encodeB p ++ [codePlus 0x28 bit.val, d]
  | .jbsSbafix bit k d => [codePlus 0x58 bit.val, sbaByte 2 k, d]
  | .jbsSbaoff bit k d => [codePlus 0x48 bit.val, sbaByte 2 k, d]
  | .jbrBit p bit d => encodeB p ++ [codePlus 0x20 bit.val, d]
  | .jbrSbafix bit k d => [codePlus 0x58 bit.val, sbaByte 3 k, d]
  | .jbrSbaoff bit k d => [codePlus 0x48 bit.val, sbaByte 3 k, d]
  | .jbsrBit p bit d => encodeB p ++ [codePlus 0x38 bit.val, d]
  | .jbrsBit p bit d => encodeB p ++ [codePlus 0x30 bit.val, d]
  | .tjzA d => [0xBC, 0xA7, d]
  | .tjzW p d => encodeW p ++ [0xA7, d]
  | .tjnzA d => [0xBC, 0xA6, d]
  | .tjnzW p d => encodeW p ++ [0xA6, d]
  | .tjzbA d => [0xBC, 0xA7, d]
  | .tjzbB p d => encodeB p ++ [0xA7, d]
  | .tjnzbA d => [0xBC, 0xA6, d]
  | .tjnzbB p d => encodeB p ++ [0xA6, d]
  | .jgt d => [0xF0, d]
  | .jge d => [0xF5, d]
  | .jlt d => [0xF2, d]
  | .jle d => [0xF7, d]
  | .jeq d => [0xF1, d]
  | .jne d => [0xF6, d]
  | .jps d => [0xF4, d]
  | .jns d => [0xF3, d]
  | .jgts d => [0x8A, 0xFE, d]
  | .jges d => [0x8A, 0xFF, d]
  | .jlts d => [0x8A, 0xFC, d]
  | .jles d => [0x8A, 0xFD, d]
  | .jov d => [0x9A, 0x29, d]
  | .jnv d => [0x9A, 0x21, d]
  | .djnzR4 d => [0x05, n7Byte false d]
  | .djnzR5 d => [0x05, n7Byte true d]
  | .djnzPrL n d => [codePlus 0x60 n.num, 0xEA, d]
  | .djnzB p d => encodeB p ++ [0xEA, d]
  | .jrnzDp d => [0x62, 0xEA, d]
  | .sj d => [0x04, d]
  | .jCadr w => [0x03, loByte w, hiByte w]
  | .jInd p => encodeW p ++ [0xC9]
  | .calCadr w => [0xFE, loByte w, hiByte w]
  | .calInd p => encodeW p ++ [0xEB]
  | .scalCadr w => [0xFE, loByte w, hiByte w]
  | .acal h lo => [acalByte dev h, lo]
  | .vcal v => [codePlus 0xE0 v.val]
  | .rt => [0x01]
  | .fcal seg w => [0x07, 0x08, loByte w, hiByte w, seg]
  | .fj seg w => [0x60, 0xFA, loByte w, hiByte w, seg]
  | .frt => [0x07, 0x09]
  | .rti => [0x02]
  | .sc => [0xCB]
  | .rc => [0xCA]
  | .cplC => [0xFD]
  | .sdd => [0xD9]
  | .rdd => [0xD8]
  | .ei => [0xDB]
  | .di => [0xDA]
  | .extnd => [0xFC]
  | .nop => [0x00]
  | .brk => [0xFF]
  | .mac a bit => encodeB (.mem (.sfr a)) ++ [codePlus 0x08 bit.val]
  | .pfxWA s => encodeW .acc ++ [s]
  | .pfxWPr n s => encodeW (.pr n) ++ [s]
  | .pfxWEr n s => encodeW (.er n) ++ [s]
  | .pfxBR n s => encodeB (.r n) ++ [s]
  | .pfxWX1 s => encodeW (.mem .x1) ++ [s]
  | .pfxBX1 s => encodeB (.mem .x1) ++ [s]
  | .pfxWDpDec s => encodeW (.mem .dpDec) ++ [s]
  | .pfxBDpDec s => encodeB (.mem .dpDec) ++ [s]
  | .pfxWDp s => encodeW (.mem .dp) ++ [s]
  | .pfxBDp s => encodeB (.mem .dp) ++ [s]
  | .pfxWDpInc s => encodeW (.mem .dpInc) ++ [s]
  | .pfxBDpInc s => encodeB (.mem .dpInc) ++ [s]
  | .pfxWFix a s => encodeW (.mem (.fix a)) ++ [s]
  | .pfxBFix a s => encodeB (.mem (.fix a)) ++ [s]
  | .pfxWOff a s => encodeW (.mem (.off a)) ++ [s]
  | .pfxBOff a s => encodeB (.mem (.off a)) ++ [s]
  | .pfxWSfr a s => encodeW (.mem (.sfr a)) ++ [s]
  | .pfxBSfr a s => encodeB (.mem (.sfr a)) ++ [s]
  | .pfxWDir w s => encodeW (.mem (.dir w)) ++ [s]
  | .pfxBDir w s => encodeB (.mem (.dir w)) ++ [s]
  | .pfxWD16X1 w s => encodeW (.mem (.d16x1 w)) ++ [s]
  | .pfxBD16X1 w s => encodeB (.mem (.d16x1 w)) ++ [s]
  | .pfxWD16X2 w s => encodeW (.mem (.d16x2 w)) ++ [s]
  | .pfxBD16X2 w s => encodeB (.mem (.d16x2 w)) ++ [s]
  | .pfxWX1A s => encodeW (.mem .x1A) ++ [s]
  | .pfxBX1A s => encodeB (.mem .x1A) ++ [s]
  | .pfxWX1R0 s => encodeW (.mem .x1R0) ++ [s]
  | .pfxBX1R0 s => encodeB (.mem .x1R0) ++ [s]
  | .pfxWN7 b n s => encodeW (.mem (n7Mode b n)) ++ [s]
  | .pfxBN7 b n s => encodeB (.mem (n7Mode b n)) ++ [s]
  | .pfxBPswl s => encodeB .pswl ++ [s]
  | .pfxBPswh s => encodeB .pswh ++ [s]
  | .unassigned lo => [codePlus 0x54 lo.val]

/-- The instruction the decoder reads from an instruction's own bytes: itself, but for the five aliases whose bytes are a core
instruction's (R177, R481, log 35). -/
noncomputable def canon (i : Instr) : Instr :=
  match i with
  | .jov d => .jbsBit .pswh 1 d
  | .jnv d => .jbrBit .pswh 1 d
  | .jrnzDp d => .djnzPrL .dp d
  | .scalCadr w => .calCadr w
  | .mac a bit => .sbBit (.mem (.sfr a)) bit
  | i => i

/-- The value DD_FETCH must have for the bytes of an instruction to be read as it: the native codes of class (a) and the BC
codes of class (b); `none` where decoding does not look at DD_FETCH (R135). -/
def ddNeed (i : Instr) : Option Bool :=
  match i with
  | .stAEr .. | .stAPr .. | .stAX1 .. | .stADpDec .. | .stADp .. | .stADpInc .. | .stAFix .. | .stAOff ..
  | .stASfr .. | .stADir .. | .stAD16X1 .. | .stAN7 .. | .stAD16X2 .. | .fillA .. | .sllA .. | .sllAWidth ..
  | .srlA .. | .srlAWidth .. | .sraAWidth .. | .rolA .. | .rolAWidth .. | .rorA .. | .rorAWidth .. | .incA ..
  | .decA .. | .addAEr .. | .addAPr .. | .addAFix .. | .addAOff .. | .addAImm .. | .adcAImm .. | .subAEr ..
  | .subAPr .. | .subAFix .. | .subAOff .. | .subAImm .. | .sbcAImm .. | .cmpAEr .. | .cmpAPr .. | .cmpAFix ..
  | .cmpAOff .. | .cmpAImm .. | .negA .. | .sqrA .. | .andAOff .. | .andAImm .. | .orAOff .. | .orAImm ..
  | .xorAOff .. | .xorAImm .. | .tjzA .. | .tjnzA .. => some true
  | .stbAR .. | .stbAX1 .. | .stbADpDec .. | .stbADp .. | .stbADpInc .. | .stbAFix .. | .stbAOff .. | .stbASfr ..
  | .stbADir .. | .stbAD16X1 .. | .stbAN7 .. | .stbAD16X2 .. | .fillbA .. | .sllbA .. | .sllbAWidth .. | .srlbA ..
  | .srlbAWidth .. | .srabAWidth .. | .rolbA .. | .rolbAWidth .. | .rorbA .. | .rorbAWidth .. | .incbA .. | .decbA ..
  | .addbAR .. | .addbAFix .. | .addbAOff .. | .addbAImm .. | .adcbAImm .. | .subbAR .. | .subbAFix .. | .subbAOff ..
  | .subbAImm .. | .sbcbAImm .. | .cmpbAR .. | .cmpbAFix .. | .cmpbAOff .. | .cmpbAImm .. | .negbA .. | .sqrbA ..
  | .andbAOff .. | .andbAImm .. | .orbAOff .. | .orbAImm .. | .xorbAOff .. | .xorbAImm .. | .tjzbA .. | .tjnzbA .. => some false
  | _ => none

/-- Whether the bytes that follow leave an instruction's own bytes their meaning: a PUSHS A directly followed by 08 or 09 is
read as FCAL or FRT (R163, D21, log 24). -/
def followOk (i : Instr) (rest : List Byte) : Bool :=
  match i with
  | .pushsA =>
    match rest with
    | b :: _ => b != 0x08 && b != 0x09
    | [] => true
  | _ => true

end Sys2Proof
end

