-- ==== Sys2Proof/Machine/Flags.lean ====
section
/-! DEFINITION. The bits of PSW (10_state.md R22) and every flag computation of the spec: R37 (addition, subtraction,
logic), 42_shift_rotate.md R250 (shifts and rotates), 43_inc_dec.md R280. -/

namespace Sys2Proof.Machine

/-! ## The bits of PSW (R22) -/

/-- C, bit 15 (R24). -/
def Psw.c (p : Word) : Bool := p.getLsbD 15
/-- Z, bit 14 (R25). -/
def Psw.z (p : Word) : Bool := p.getLsbD 14
/-- HC, bit 13 (R27). -/
def Psw.hc (p : Word) : Bool := p.getLsbD 13
/-- DD, bit 12 (R26). -/
def Psw.dd (p : Word) : Bool := p.getLsbD 12
/-- S, bit 11 (R28). -/
def Psw.s (p : Word) : Bool := p.getLsbD 11
/-- MIP, bit 10 (R31). -/
def Psw.mip (p : Word) : Bool := p.getLsbD 10
/-- OV, bit 9 (R29). -/
def Psw.ov (p : Word) : Bool := p.getLsbD 9
/-- MIE, bit 8 (R30). -/
def Psw.mie (p : Word) : Bool := p.getLsbD 8
/-- MAB, bit 7 (R32). -/
def Psw.mab (p : Word) : Bool := p.getLsbD 7
/-- F1, bit 6 (R33). -/
def Psw.f1 (p : Word) : Bool := p.getLsbD 6
/-- BCB, bits 5:4 (R34). -/
def Psw.bcb (p : Word) : BitVec 2 := p.extractLsb' 4 2
/-- F0, bit 3 (R33). -/
def Psw.f0 (p : Word) : Bool := p.getLsbD 3
/-- SCB, bits 2:0 (R35). -/
def Psw.scb (p : Word) : BitVec 3 := p.extractLsb' 0 3

/-- Write C (R24). -/
def Psw.setC (p : Word) (b : Bool) : Word := putBit p 15 b
/-- Write Z (R25). -/
def Psw.setZ (p : Word) (b : Bool) : Word := putBit p 14 b
/-- Write HC (R27). -/
def Psw.setHc (p : Word) (b : Bool) : Word := putBit p 13 b
/-- Write DD (R26). -/
def Psw.setDd (p : Word) (b : Bool) : Word := putBit p 12 b
/-- Write S (R28). -/
def Psw.setS (p : Word) (b : Bool) : Word := putBit p 11 b
/-- Write OV (R29). -/
def Psw.setOv (p : Word) (b : Bool) : Word := putBit p 9 b
/-- Write MIE (R30). -/
def Psw.setMie (p : Word) (b : Bool) : Word := putBit p 8 b

/-! ## Addition and subtraction (R37) -/

/-- A result and the five flags an addition or a subtraction computes. -/
structure AluOut (w : Nat) where
  res : BitVec w
  c : Bool
  z : Bool
  s : Bool
  ov : Bool
  hc : Bool
deriving DecidableEq, Repr

/-- `AddFlags(w, a, b, cin)` of R37. HC is the carry out of bit 3 at either width (D23, log 25). -/
def addFlags {w : Nat} (a b : BitVec w) (cin : Bool) : AluOut w :=
  let full := a.toNat + b.toNat + cin.toNat
  let r := BitVec.ofNat w full
  { res := r
    c := decide (2 ^ w ≤ full)
    z := r == 0
    s := r.msb
    ov := (a.msb == b.msb) && (r.msb != a.msb)
    hc := decide (16 ≤ a.toNat % 16 + b.toNat % 16 + cin.toNat) }

/-- `SubFlags(w, a, b, bin)` of R37: C is the borrow. HC is the borrow into bit 3 at either width (D23, log 25). -/
def subFlags {w : Nat} (a b : BitVec w) (bin : Bool) : AluOut w :=
  let full : Int := (a.toNat : Int) - b.toNat - bin.toNat
  let r := BitVec.ofInt w full
  { res := r
    c := decide (full < 0)
    z := r == 0
    s := r.msb
    ov := (a.msb != b.msb) && (r.msb != a.msb)
    hc := decide ((a.toNat % 16 : Int) - (b.toNat % 16 : Nat) - bin.toNat < 0) }

/-- Write C, Z, S, OV, HC (R36, arithmetic and comparison). -/
def Psw.putArith {w : Nat} (p : Word) (o : AluOut w) : Word :=
  Psw.setHc (Psw.setOv (Psw.setS (Psw.setZ (Psw.setC p o.c) o.z) o.s) o.ov) o.hc

/-- Write Z, S, OV, HC and leave C (43_inc_dec.md R280). -/
def Psw.putIncDec {w : Nat} (p : Word) (o : AluOut w) : Word :=
  Psw.setHc (Psw.setOv (Psw.setS (Psw.setZ p o.z) o.s) o.ov) o.hc

/-- `LogicFlags(w, r)` of R37: write Z and S. -/
def Psw.putLogic {w : Nat} (p : Word) (r : BitVec w) : Word :=
  Psw.setS (Psw.setZ p (r == 0)) r.msb

/-! ## The eight two-operand operations (44_arithmetic.md R295, 45_logical.md R340) -/

/-- ADD, ADC, SUB, SBC, CMP, AND, OR, XOR. -/
inductive AluOp where
  | add | adc | sub | sbc | cmp | and | or | xor
deriving DecidableEq, Repr

/-- The result and the new PSW of an operation on x and y; ADC and SBC read C before it is written (R302, R314). -/
def aluRun {w : Nat} (op : AluOp) (p : Word) (x y : BitVec w) : BitVec w × Word :=
  match op with
  | .add => let o := addFlags x y false; (o.res, Psw.putArith p o)
  | .adc => let o := addFlags x y (Psw.c p); (o.res, Psw.putArith p o)
  | .sub => let o := subFlags x y false; (o.res, Psw.putArith p o)
  | .sbc => let o := subFlags x y (Psw.c p); (o.res, Psw.putArith p o)
  | .cmp => let o := subFlags x y false; (o.res, Psw.putArith p o)
  | .and => let r := x &&& y; (r, Psw.putLogic p r)
  | .or => let r := x ||| y; (r, Psw.putLogic p r)
  | .xor => let r := x ^^^ y; (r, Psw.putLogic p r)

/-- Whether the operation writes its first operand: all but the comparison (R320, R322). -/
def AluOp.writes (op : AluOp) : Bool :=
  match op with
  | .cmp => false
  | .add | .adc | .sub | .sbc | .and | .or | .xor => true

/-- `IncFlags` and `DecFlags` of R280: the result and the new PSW, C unchanged. -/
def incDecRun {w : Nat} (dec : Bool) (p : Word) (x : BitVec w) : BitVec w × Word :=
  let o := if dec then subFlags x 1 false else addFlags x 1 false
  (o.res, Psw.putIncDec p o)

/-! ## Shifts and rotates (42_shift_rotate.md R250) -/

/-- SLL, SRL, SRA, ROL, ROR. -/
inductive ShiftOp where
  | sll | srl | sra | rol | ror
deriving DecidableEq, Repr

/-- One step of a left rotate through the carry. -/
def rolStep {w : Nat} (xc : BitVec w × Bool) : BitVec w × Bool :=
  ((xc.1 <<< 1) ||| (BitVec.ofBool xc.2).setWidth w, xc.1.msb)

/-- One step of a right rotate through the carry. -/
def rorStep {w : Nat} (xc : BitVec w × Bool) : BitVec w × Bool :=
  (putBit (xc.1 >>> 1) (w - 1) xc.2, xc.1.getLsbD 0)

/-- n steps of a rotate. -/
def rotSteps {w : Nat} (f : BitVec w × Bool → BitVec w × Bool) : Nat → BitVec w × Bool → BitVec w × Bool
  | 0, xc => xc
  | n + 1, xc => rotSteps f n (f xc)

/-- The result and the new carry of shifting x by n (1 to 4) with carry c (R250): C is the OR of all bits shifted out by
SLL, the last bit shifted out by SRL and SRA, and the rotated bit of ROL and ROR. -/
def shiftRun {w : Nat} (op : ShiftOp) (c : Bool) (x : BitVec w) (n : Nat) : BitVec w × Bool :=
  match op with
  | .sll => (x <<< n, (x >>> (w - n)) != 0)
  | .srl => (x >>> n, x.getLsbD (n - 1))
  | .sra => (x.sshiftRight n, x.getLsbD (n - 1))
  | .rol => rotSteps rolStep n (x, c)
  | .ror => rotSteps rorStep n (x, c)

/-! ## Conditions of the conditional jumps (48_jump_call.md R425 to R439) -/

/-- The fourteen conditions of the table of R425. -/
inductive Cond where
  | gt | ge | lt | le | eq | ne | gts | ges | lts | les | ps | ns | ov | nv
deriving DecidableEq, Repr

/-- Whether a condition holds of PSW (R425). -/
def Cond.holds (cc : Cond) (p : Word) : Bool :=
  match cc with
  | .gt => !Psw.z p && !Psw.c p
  | .ge => !Psw.c p
  | .lt => Psw.c p
  | .le => Psw.z p || Psw.c p
  | .eq => Psw.z p
  | .ne => !Psw.z p
  | .gts => !((Psw.ov p ^^ Psw.s p) || Psw.z p)
  | .ges => !(Psw.ov p ^^ Psw.s p)
  | .lts => Psw.ov p ^^ Psw.s p
  | .les => (Psw.ov p ^^ Psw.s p) || Psw.z p
  | .ps => !Psw.s p
  | .ns => Psw.s p
  | .ov => Psw.ov p
  | .nv => !Psw.ov p

end Sys2Proof.Machine
end

