-- ==== Sys2Proof/Machine/Memory.lean ====
section
/-! DEFINITION. A memory space as a canonical list of (address, byte) pairs. The key of `segment:offset` is
`segment * 10000H + offset` (20_memory.md R80). What an unlisted address reads as is a parameter of every function here:
`dataDefault` for data memory, `progDefault` for program memory. -/

namespace Sys2Proof.Machine

/-- The key of a physical address `segment:offset` of either space (R80). -/
def key (seg : Byte) (off : Word) : Nat := seg.toNat * 0x10000 + off.toNat

namespace Memory

/-- The first entry listed for an address. -/
def lookup : List Host.Cell → Nat → Option Byte
  | [], _ => none
  | (k, v) :: t, a => if k = a then some v else lookup t a

/-- What an address reads as: its entry, or the default of an unlisted address. -/
def read (dflt : Nat → Option Byte) (m : List Host.Cell) (a : Nat) : Option Byte :=
  match lookup m a with
  | some v => some v
  | none => dflt a

/-- Put an entry at its place in the rising list, replacing the entry of the same address. -/
def insert : List Host.Cell → Nat → Byte → List Host.Cell
  | [], a, v => [(a, v)]
  | (k, w) :: t, a, v =>
    if a < k then (a, v) :: (k, w) :: t
    else if a = k then (a, v) :: t
    else (k, w) :: insert t a v

/-- Drop every entry of an address. -/
def erase : List Host.Cell → Nat → List Host.Cell
  | [], _ => []
  | (k, w) :: t, a => if k = a then erase t a else (k, w) :: erase t a

/-- Write one byte and keep the canonical form: the default value is not listed. -/
def write (dflt : Nat → Option Byte) (m : List Host.Cell) (a : Nat) (v : Byte) : List Host.Cell :=
  if dflt a = some v then erase m a else insert m a v

/-- Whether the listed addresses rise strictly and all lie above `lo`. -/
def sortedFrom : Option Nat → List Host.Cell → Bool
  | _, [] => true
  | none, (k, _) :: t => sortedFrom (some k) t
  | some lo, (k, _) :: t => decide (lo < k) && sortedFrom (some k) t

/-- The canonical form: addresses inside the 16M-byte space and strictly rising, no entry equal to the default. -/
def wf (dflt : Nat → Option Byte) (m : List Host.Cell) : Bool :=
  sortedFrom none m && m.all fun c => decide (c.1 < 0x1000000) && decide (dflt c.1 ≠ some c.2)

end Memory

/-- What an unlisted byte of data memory reads as. The SFR area and the pointing and local registers (0:0000H to 0:09FFH)
read 0: DESIGN CHOICE, a register holds a value at reset (logs 1 and 2, unsafe). Every other byte has no value until it is
written (92_eei_decisions.md D17, log 6, safe). -/
def dataDefault (a : Nat) : Option Byte := if a < 0xA00 then some 0 else none

/-- What an unlisted byte of program memory reads as: nothing; only loaded bytes have a value (log 7, safe). -/
def progDefault (_ : Nat) : Option Byte := none

end Sys2Proof.Machine
end

