-- ==== Sys2Proof/Machine/State.lean ====
section
/-! DEFINITION. The whole state of one nX-8/500S core (10_state.md R20), the reasons a step can stop, and the state
after reset (10_state.md R75, 70_reset_and_hazards.md R540). -/

namespace Sys2Proof.Machine

/-- Something the environment may do at an instruction boundary (60_exceptions.md R510, 10_state.md R66, D15). -/
inductive Event where
  /-- Reset pin (R501). -/
  | res
  /-- Watchdog timer reset (R503). -/
  | wdt
  /-- Non-maskable interrupt (R510 c). -/
  | nmi
  /-- Maskable interrupt request k, 1 to 32 (R510 b). -/
  | irq (k : Nat)
  /-- The device's memory-model setting, `SetModel(m)` (R66, D3). -/
  | setModel (m : MemModel)
  /-- A byte written to data memory by another bus master (D15). -/
  | busWrite (addr : Nat) (v : Byte)
deriving DecidableEq, Repr

/-- Why a step stops with a model fault. Each is the spec's own treatment of behaviour it calls undefined, not guaranteed
or does not give (93_implementation_defined.md). -/
inductive Fault where
  /-- A byte sequence no rule lists (R165, D1), raised by the decoder and the prefix-row constructors. Safe. -/
  | unlistedEncoding
  /-- A class (c) instruction whose prefix width disagrees with DD_FETCH (R135, D26). Safe. -/
  | ddMismatch
  /-- A data address outside DATA_MEMORY_PRESENT (R97, D16), raised by every data access. Safe. -/
  | absentData
  /-- A byte of data memory nothing has written yet (R541, D17), raised by reads. Safe. -/
  | unwrittenData
  /-- A program address outside CODE_MEMORY_PRESENT (D16), raised by fetches and table reads. Safe. -/
  | absentCode
  /-- A byte of program memory nothing was loaded to (log 7), raised by fetches and table reads. Safe. -/
  | unprogrammedCode
  /-- An SFR address neither the spec nor SFR_MAP assigns (R91, D16), raised by data accesses. Safe. -/
  | sfrUnassigned
  /-- A read of a write-only SFR of SFR_MAP (R91). Safe. -/
  | sfrWriteOnly
  /-- A write of a read-only SFR of SFR_MAP (R91). Safe. -/
  | sfrReadOnly
  /-- A word operand at an odd address of a device SFR for which SFR_MAP makes an exception to the word boundary; what such an
  access does is not in the source (R83, R142, U11, log 41). Raised by rdW and wrW. Safe. -/
  | sfrWordException
  /-- A write into an open ROM window (R96, R103, D20). Safe. -/
  | romWindowWrite
  /-- A stack access in an open ROM window outside internal data memory (R107, D14). Safe. -/
  | romWindowStack
deriving DecidableEq, Repr

/-- Why the model does not accept a program. -/
inductive Refusal where
  /-- An instruction that has no meaning in this model yet, raised by an arm of exec alone. Safe. -/
  | notModelled (mnemonic : String)
  /-- An SFR address that may be ACC, TSR, DSR or ROMWIN when the device does not give all four (D4), raised by data
  accesses. Safe. -/
  | sfrAddressNotGiven
  /-- Opcode 06 when the device gives no REGMASK (R241, D7), raised by the decoder. Safe. -/
  | regMaskNotGiven
deriving DecidableEq, Repr

/-- The state. Pointing and local registers are bytes of `data` (R51, R55). -/
structure State where
  /-- A (R21). -/
  a : Word
  /-- PSW (R22). -/
  psw : Word
  /-- PC (R40). -/
  pc : Word
  /-- LRB (R43). -/
  lrb : Word
  /-- SSP (R46). -/
  ssp : Word
  /-- CSR (R58). -/
  csr : Byte
  /-- TSR (R59). -/
  tsr : Byte
  /-- DSR (R60). -/
  dsr : Byte
  /-- ROMWIN (R62). -/
  romwin : Byte
  /-- ROMWIN_WRITTEN (R63). -/
  romwinWritten : Bool
  /-- MODEL (R66). -/
  model : MemModel
  /-- MODEL_SET (R66). -/
  modelSet : Bool
  /-- DD_FETCH (R68). -/
  ddFetch : Bool
  /-- Data memory, with the SFRs of SFR_MAP (R70); unlisted bytes read as `dataDefault` says. -/
  data : List Host.Cell
  /-- Program memory (R71); an unlisted byte has no value. -/
  prog : List Host.Cell
  /-- What the environment will offer, one list of events for each coming instruction boundary (R69, R510, log 12). -/
  inputs : List (List Event)
  /-- The MODEL's own counter of draws: it picks the next free value (D13, D19, log 9). -/
  draws : Nat
  /-- The device parameters (R8); no step changes them. -/
  dev : Device
deriving DecidableEq, Repr

/-- The state after a RES reset (R75, R540) of a device with the default parameters, nothing loaded. LRB and PC are
DESIGN CHOICE (logs 1 and 3), the other PSW bits are PSW_RESET (log 5). -/
def State.reset : State where
  a := 0
  psw := 0
  pc := 0
  lrb := 0
  ssp := 0xFFFF
  csr := 0
  tsr := 0
  dsr := 0
  romwin := 0
  romwinWritten := false
  model := .small
  modelSet := false
  ddFetch := false
  data := []
  prog := []
  inputs := []
  draws := 0
  dev := Device.default

/-! ## One named update per field; their frame lemmas stand in Laws/State.lean -/

/-- `A <- v`. -/
def State.setA (s : State) (v : Word) : State := { s with a := v }
/-- `PSW <- v`. -/
def State.setPsw (s : State) (v : Word) : State := { s with psw := v }
/-- `PC <- v`. -/
def State.setPc (s : State) (v : Word) : State := { s with pc := v }
/-- `LRB <- v`. -/
def State.setLrb (s : State) (v : Word) : State := { s with lrb := v }
/-- `SSP <- v`. -/
def State.setSsp (s : State) (v : Word) : State := { s with ssp := v }
/-- CSR, all eight bits; Ops.lean keeps the implemented ones. -/
def State.setCsrRaw (s : State) (v : Byte) : State := { s with csr := v }
/-- TSR, all eight bits. -/
def State.setTsrRaw (s : State) (v : Byte) : State := { s with tsr := v }
/-- DSR, all eight bits. -/
def State.setDsrRaw (s : State) (v : Byte) : State := { s with dsr := v }
/-- ROMWIN and its latch. -/
def State.setRomwinRaw (s : State) (v : Byte) (latch : Bool) : State := { s with romwin := v, romwinWritten := latch }
/-- MODEL and MODEL_SET. -/
def State.setModelRaw (s : State) (m : MemModel) (latch : Bool) : State := { s with model := m, modelSet := latch }
/-- `DD_FETCH <- v`. -/
def State.setDdFetch (s : State) (v : Bool) : State := { s with ddFetch := v }
/-- The whole data memory. -/
def State.setData (s : State) (m : List Host.Cell) : State := { s with data := m }
/-- The whole program memory: a load from outside. -/
def State.setProg (s : State) (m : List Host.Cell) : State := { s with prog := m }
/-- What the environment will offer. -/
def State.setInputs (s : State) (l : List (List Event)) : State := { s with inputs := l }
/-- The draw counter moves on by n. -/
def State.draw (s : State) (n : Nat) : State := { s with draws := s.draws + n }

end Sys2Proof.Machine
end

