-- ==== Sys2Proof/Machine/Ops.lean ====
section
/-! DEFINITION. The named operations over memory and registers (20_memory.md R100 to R108), taking a reset or an
interrupt (60_exceptions.md R501 to R512) and returning from one (48_jump_call.md R457). -/

namespace Sys2Proof.Machine

/-- Why an operation stopped. -/
inductive Stop where
  | fault (f : Fault)
  | refused (r : Refusal)
deriving DecidableEq, Repr

/-- The result of an operation: a value, or a stop. -/
abbrev Res (α : Type) := Except Stop α

/-- Stop with a fault. -/
def stopFault {α : Type} (f : Fault) : Res α := .error (.fault f)

/-- Stop with a refusal. -/
def stopRefused {α : Type} (r : Refusal) : Res α := .error (.refused r)

/-! ## Segments (10_state.md R61, R66) -/

/-- Whether the model is medium or large: CSR and TSR are valid, calls through vectors are far (R66). -/
def State.farCode (s : State) : Bool :=
  match s.model with
  | .medium | .large => true
  | .small | .compact => false

/-- Whether the model is compact or large: DSR is valid (R66). -/
def State.farData (s : State) : Bool :=
  match s.model with
  | .compact | .large => true
  | .small | .medium => false

/-- `CodeSeg()` (R61). -/
def State.codeSeg (s : State) : Byte := if s.farCode then s.csr else 0
/-- `TableSeg()` (R61). -/
def State.tableSeg (s : State) : Byte := if s.farCode then s.tsr else 0
/-- `DataSeg()` (R61). -/
def State.dataSeg (s : State) : Byte := if s.farData then s.dsr else 0

/-- The mask of the implemented bits of a segment register (R61; unimplemented bits read 0, log 39). -/
def segMask (bits : Nat) : Byte := BitVec.ofNat 8 (2 ^ bits - 1)

/-- A write of CSR keeps the implemented bits (R61, R451). -/
def State.setCsr (s : State) (v : Byte) : State := s.setCsrRaw (v &&& segMask s.dev.csrBits)
/-- A write of TSR keeps the implemented bits (R108). -/
def State.setTsr (s : State) (v : Byte) : State := s.setTsrRaw (v &&& segMask s.dev.tsrBits)
/-- A write of DSR keeps the implemented bits (R108). -/
def State.setDsr (s : State) (v : Byte) : State := s.setDsrRaw (v &&& segMask s.dev.dsrBits)

/-- A write of ROMWIN: the first after reset stores and closes the latch, a later one is ignored (R63, D12, log 21). -/
def State.setRomwin (s : State) (v : Byte) : State :=
  if s.romwinWritten then s else s.setRomwinRaw v true

/-! ## Presence of memory (R97) -/

/-- Whether an address lies in one of the ranges. -/
def inRanges (rs : List (Nat × Nat)) (a : Nat) : Bool :=
  rs.any fun r => decide (r.1 ≤ a) && decide (a ≤ r.2)

/-! ## Program memory (R104) -/

/-- `CodeRead(seg, off, 1)`. -/
def codeReadByte (s : State) (seg : Byte) (off : Word) : Res Byte :=
  if inRanges s.dev.codePresent (key seg off) then
    match Memory.read progDefault s.prog (key seg off) with
    | some v => .ok v
    | none => stopFault .unprogrammedCode
  else stopFault .absentCode

/-- `CodeRead(seg, off, 2)`: no word boundary, the offset wraps inside the segment (R84, R104, log 40). -/
def codeReadWord (s : State) (seg : Byte) (off : Word) : Res Word := do
  let lo ← codeReadByte s seg off
  let hi ← codeReadByte s seg (off + 1)
  return mkWord hi lo

/-! ## The SFR area (R108) -/

/-- What an SFR address is. -/
inductive SfrCell where
  | sspL | sspH | lrbL | lrbH | pswL | pswH | accL | accH | tsr | dsr | romwin
  /-- An SFR of the device's SFR_MAP. -/
  | device (k : SfrKind)
  /-- It may be ACC, TSR, DSR or ROMWIN, whose addresses the device does not give (D4). -/
  | notGiven
  /-- No SFR is assigned (R91). -/
  | unassigned
deriving DecidableEq, Repr

/-- The SFR_MAP entry of an address. -/
def sfrKindAt : List (Nat × SfrKind) → Nat → Option SfrKind
  | [], _ => none
  | (a, k) :: t, x => if a = x then some k else sfrKindAt t x

/-- Whether a register's given SFR address, moved up by d, is x. -/
def sfrIs (r : Option Byte) (d x : Nat) : Bool :=
  match r with
  | some b => b.toNat + d == x
  | none => false

/-- The decoding of an SFR address (R108), fixed addresses first. -/
def sfrAt (d : Device) (x : Nat) : SfrCell :=
  if x = 0 then .sspL else if x = 1 then .sspH
  else if x = 2 then .lrbL else if x = 3 then .lrbH
  else if x = 4 then .pswL else if x = 5 then .pswH
  else if sfrIs d.sfrAcc 0 x then .accL else if sfrIs d.sfrAcc 1 x then .accH
  else if sfrIs d.sfrTsr 0 x then .tsr
  else if sfrIs d.sfrDsr 0 x then .dsr
  else if sfrIs d.sfrRomwin 0 x then .romwin
  else match sfrKindAt d.sfrMap x with
    | some k => .device k
    | none =>
      if decide (x < 0x100)
          && (d.sfrAcc.isNone || d.sfrTsr.isNone || d.sfrDsr.isNone || d.sfrRomwin.isNone)
      then .notGiven else .unassigned

/-- One byte of data memory as stored, 0 for a device SFR nothing has written (log 2). -/
def State.cell (s : State) (a : Nat) : Option Byte := Memory.read dataDefault s.data a

/-- Store one byte of data memory. -/
def State.putCell (s : State) (a : Nat) (v : Byte) : State := s.setData (Memory.write dataDefault s.data a v)

/-- `SfrRead8` (R108). What a device SFR does is the device's; a side effect on it reaches the state as a write of the
environment at the next boundary (D15, log 32). -/
def sfrRead (s : State) (off : Word) : Res Byte :=
  match sfrAt s.dev off.toNat with
  | .sspL => .ok (loByte s.ssp)
  | .sspH => .ok (hiByte s.ssp)
  | .lrbL => .ok (loByte s.lrb)
  | .lrbH => .ok (hiByte s.lrb)
  | .pswL => .ok (loByte s.psw)
  | .pswH => .ok (hiByte s.psw)
  | .accL => .ok (loByte s.a)
  | .accH => .ok (hiByte s.a)
  | .tsr => .ok s.tsr
  | .dsr => .ok s.dsr
  | .romwin => .ok s.romwin
  | .device .writeOnly => stopFault .sfrWriteOnly
  | .device .readWrite | .device .readOnly =>
    match s.cell off.toNat with
    | some v => .ok v
    | none => stopFault .unwrittenData
  | .device .special =>
    match s.cell off.toNat with
    | some v => .ok (Config.sfrReads s.dev off.toNat v)
    | none => stopFault .unwrittenData
  | .notGiven => stopRefused .sfrAddressNotGiven
  | .unassigned => stopFault .sfrUnassigned

/-- `SfrWrite8` (R108). -/
def sfrWrite (s : State) (off : Word) (v : Byte) : Res State :=
  match sfrAt s.dev off.toNat with
  | .sspL => .ok (s.setSsp (setLo s.ssp v))
  | .sspH => .ok (s.setSsp (setHi s.ssp v))
  | .lrbL => .ok (s.setLrb (setLo s.lrb v))
  | .lrbH => .ok (s.setLrb (setHi s.lrb v))
  | .pswL => .ok (s.setPsw (setLo s.psw v))
  | .pswH => .ok (s.setPsw (setHi s.psw v))
  | .accL => .ok (s.setA (setLo s.a v))
  | .accH => .ok (s.setA (setHi s.a v))
  | .tsr => .ok (s.setTsr v)
  | .dsr => .ok (s.setDsr v)
  | .romwin => .ok (s.setRomwin v)
  | .device .readOnly => stopFault .sfrReadOnly
  | .device .readWrite | .device .writeOnly => .ok (s.putCell off.toNat v)
  | .device .special =>
    match s.cell off.toNat with
    | some w => .ok (s.putCell off.toNat (Config.sfrWrites s.dev off.toNat w v))
    | none => stopFault .unwrittenData
  | .notGiven => stopRefused .sfrAddressNotGiven
  | .unassigned => stopFault .sfrUnassigned

/-! ## Data memory by physical address (R100, R101) -/

/-- Whether a physical address is in the SFR area (R100). -/
def isSfr (seg : Byte) (off : Word) : Bool := seg == 0 && decide (off.toNat ≤ 0x1FF)

/-- `MemRead(seg:off, 1)`. -/
def memReadByte (s : State) (seg : Byte) (off : Word) : Res Byte :=
  if isSfr seg off then sfrRead s off
  else if inRanges s.dev.dataPresent (key seg off) then
    match s.cell (key seg off) with
    | some v => .ok v
    | none => stopFault .unwrittenData
  else stopFault .absentData

/-- `MemWrite(seg:off, 1, v)`. -/
def memWriteByte (s : State) (seg : Byte) (off : Word) (v : Byte) : Res State :=
  if isSfr seg off then sfrWrite s off v
  else if inRanges s.dev.dataPresent (key seg off) then .ok (s.putCell (key seg off) v)
  else stopFault .absentData

/-- The even offset a word access at `off` uses (R83). -/
def evenOff (off : Word) : Word := off &&& 0xFFFE

/-- `MemRead(seg:off, 2)`. -/
def memReadWord (s : State) (seg : Byte) (off : Word) : Res Word := do
  let lo ← memReadByte s seg (evenOff off)
  let hi ← memReadByte s seg (evenOff off + 1)
  return mkWord hi lo

/-- `MemWrite(seg:off, 2, v)`: low byte, then high byte. -/
def memWriteWord (s : State) (seg : Byte) (off : Word) (v : Word) : Res State := do
  let s ← memWriteByte s seg (evenOff off) (loByte v)
  memWriteByte s seg (evenOff off + 1) (hiByte v)

/-! ## Data memory by 16-bit offset (R102, R103) -/

/-- `CommonLimit(BCB)` (10_state.md R34). -/
def commonLimit (bcb : BitVec 2) : Nat :=
  if bcb = 0 then 0x3FF else if bcb = 1 then 0x1FFF else if bcb = 2 then 0x3FFF else 0x7FFF

/-- The segment part of `DPhys(off)`: 0 in the common area, else the data segment (R102, logs 22 and 38). -/
def State.physSeg (s : State) (off : Word) : Byte :=
  if off.toNat ≤ commonLimit (Psw.bcb s.psw) then 0 else s.dataSeg

/-- `InWindow(off)` (R96): an end below the start makes the window empty. -/
def State.inWindow (s : State) (off : Word) : Bool :=
  let lo := (s.romwin.extractLsb' 0 4).toNat
  let hi := (s.romwin.extractLsb' 4 4).toNat
  decide (lo ≠ 0) && decide (lo * 0x1000 ≤ off.toNat) && decide (off.toNat ≤ hi * 0x1000 + 0xFFF)

/-- Whether an access to `seg:off` reaches the ROM window: in the window and not internal data memory (R96, R102). -/
def State.throughWindow (s : State) (seg : Byte) (off : Word) : Bool :=
  s.inWindow off && !inRanges s.dev.internalData (key seg off)

/-- `DRead(off, 1)`. -/
def dReadByte (s : State) (off : Word) : Res Byte :=
  if s.throughWindow (s.physSeg off) off then codeReadByte s s.tableSeg off
  else memReadByte s (s.physSeg off) off

/-- `DRead(off, 2)`: through the window there is no word boundary (R84, R102). -/
def dReadWord (s : State) (off : Word) : Res Word :=
  if s.throughWindow (s.physSeg off) off then codeReadWord s s.tableSeg off
  else memReadWord s (s.physSeg off) off

/-- `DWrite(off, 1, v)` (R103). -/
def dWriteByte (s : State) (off : Word) (v : Byte) : Res State :=
  if s.throughWindow (s.physSeg off) off then stopFault .romWindowWrite
  else memWriteByte s (s.physSeg off) off v

/-- `DWrite(off, 2, v)` (R103). -/
def dWriteWord (s : State) (off : Word) (v : Word) : Res State :=
  if s.throughWindow (s.physSeg off) off then stopFault .romWindowWrite
  else memWriteWord s (s.physSeg off) off v

/-- `TRead(off, 1)` (R104). -/
def tReadByte (s : State) (off : Word) : Res Byte := codeReadByte s s.tableSeg off
/-- `TRead(off, 2)` (R104). -/
def tReadWord (s : State) (off : Word) : Res Word := codeReadWord s s.tableSeg off

/-! ## Pointing and local registers (R51, R55) -/

/-- The offset of `PRaddr(n)`, always in segment 0 (R51). -/
def State.prAddr (s : State) (n : PR) : Word := 0x200 + 8 * (Psw.scb s.psw).setWidth 16 + 2 * BitVec.ofNat 16 n.num

/-- The offset of `Raddr(n)`, always in segment 0 (R55). -/
def State.rAddr (s : State) (n : Nat) : Word := 0x200 + 8 * zext (loByte s.lrb) + BitVec.ofNat 16 n

/-- `PRn` (R51). -/
def prRead (s : State) (n : PR) : Res Word := memReadWord s 0 (s.prAddr n)
/-- `PRn <- v` (R51). -/
def prWrite (s : State) (n : PR) (v : Word) : Res State := memWriteWord s 0 (s.prAddr n) v
/-- `ERn` (R55). -/
def erRead (s : State) (n : ER) : Res Word := memReadWord s 0 (s.rAddr (2 * n.num))
/-- `ERn <- v` (R55). -/
def erWrite (s : State) (n : ER) (v : Word) : Res State := memWriteWord s 0 (s.rAddr (2 * n.num)) v
/-- `Rn` (R55). -/
def rRead (s : State) (n : R8) : Res Byte := memReadByte s 0 (s.rAddr n.num)
/-- `Rn <- v` (R55). -/
def rWrite (s : State) (n : R8) (v : Byte) : Res State := memWriteByte s 0 (s.rAddr n.num) v

/-! ## The system stack (R106, R107) -/

/-- `Push16(v)`: write at 0:SSP, then SSP - 2. -/
def push16 (s : State) (v : Word) : Res State :=
  if s.throughWindow 0 s.ssp then stopFault .romWindowStack
  else do
    let s ← memWriteWord s 0 s.ssp v
    return s.setSsp (s.ssp - 2)

/-- `Pop16()`: SSP + 2, then read at 0:SSP. -/
def pop16 (s : State) : Res (Word × State) :=
  let s := s.setSsp (s.ssp + 2)
  if s.throughWindow 0 s.ssp then stopFault .romWindowStack
  else do
    let v ← memReadWord s 0 s.ssp
    return (v, s)

/-! ## Resets (60_exceptions.md R501 to R504) -/

/-- The PSW bits PSW_RESET gives: MIP, MIE, MAB, F1, BCB, F0 (R501, D2). -/
def pswResetMask : Word := 0x05F8

/-- `SystemReset()` (R501): the table of 10_state.md R75. `keep` says whether data memory, LRB and the register sets keep
their contents; it is WARM_RESET_KEEPS_RAM for BRK, WDT and the op-code trap and false for RES (R501, X9, log 36). -/
def systemReset (s : State) (keep : Bool) : State :=
  { s with
    a := 0
    psw := s.dev.pswReset &&& pswResetMask
    lrb := if keep then s.lrb else 0
    ssp := 0xFFFF
    csr := 0
    tsr := 0
    dsr := 0
    romwin := 0
    romwinWritten := false
    model := .small
    modelSet := false
    ddFetch := false
    data := if keep then s.data else [] }

/-- A reset of any kind: the system reset, then PC from the vector word in segment 0 (R501 to R504). -/
def takeReset (s : State) (keep : Bool) (vector : Word) : Res State := do
  let s := systemReset s keep
  let pc ← codeReadWord s 0 vector
  return s.setPc pc

/-- Reset pin: vector 0000H (R501). -/
def resReset (s : State) : Res State := takeReset s false 0x0000
/-- BRK: vector 0002H (R502). -/
def brkReset (s : State) : Res State := takeReset s s.dev.warmResetKeepsRam 0x0002
/-- Watchdog timer: vector 0004H (R503). -/
def wdtReset (s : State) : Res State := takeReset s s.dev.warmResetKeepsRam 0x0004
/-- Op-code trap: vector 0006H, with none of the trapping instruction's own effects (R504, log 37). -/
def opcodeTrap (s : State) : Res State := takeReset s s.dev.warmResetKeepsRam 0x0006

/-! ## Interrupts (60_exceptions.md R510 to R512) and the return from one (48_jump_call.md R457) -/

/-- The vector of an interrupt source, 0 the NMI and k a maskable interrupt (20_memory.md R87). -/
def irqVector (source : Nat) : Word := BitVec.ofNat 16 (0x0008 + 2 * source)

/-- Push CSR as a word under the medium and large models only (R451, R512, D5, log 16). -/
def pushCsrIfFar (s : State) : Res State := if s.farCode then push16 s (zext s.csr) else .ok s

/-- Interrupt entry (R512): push PC, CSR when far, A, LRB and PSW; PSW becomes IRQ_ENTRY_PSW (D10); CSR is 0 and PC the
vector word; DD_FETCH is the new PSW.DD (D28). -/
def takeInterrupt (s : State) (source : Nat) : Res State := do
  let s ← push16 s s.pc
  let s ← pushCsrIfFar s
  let s ← push16 s s.a
  let s ← push16 s s.lrb
  let s ← push16 s s.psw
  let s := (s.setPsw (Config.irqEntryPsw s.dev s.psw source)).setCsr 0
  let pc ← codeReadWord s 0 (irqVector source)
  let s := s.setPc pc
  return s.setDdFetch (Psw.dd s.psw)

/-- Pop CSR under the medium and large models only: the low byte is loaded, the high byte discarded (R451, R457). -/
def popCsrIfFar (s : State) : Res State :=
  if s.farCode then do
    let (c, s) ← pop16 s
    return s.setCsr (loByte c)
  else .ok s

/-- The return from an interrupt (R457): pop PSW, LRB, A, CSR when far, PC. -/
def returnFromInterrupt (s : State) : Res State := do
  let (p, s) ← pop16 s
  let s := s.setPsw p
  let (l, s) ← pop16 s
  let s := s.setLrb l
  let (a, s) ← pop16 s
  let s := s.setA a
  let s ← popCsrIfFar s
  let (pc, s) ← pop16 s
  return s.setPc pc

/-! ## How an instruction ends -/

/-- Turn the result of an operation into the outcome of a step. -/
def finish (r : Res State) : Host.Outcome State Fault Refusal :=
  match r with
  | .ok s => .next s
  | .error (.fault f) => .fault f
  | .error (.refused f) => .refused f

/-- The end of an instruction that does not change DD as part of its function: DD_FETCH is PSW.DD as it was before the
instruction (70_reset_and_hazards.md R550). -/
def retire (s : State) (r : Res State) : Host.Outcome State Fault Refusal :=
  finish (do let t ← r; return t.setDdFetch (Psw.dd s.psw))

/-- The end of an instruction that leaves DD_FETCH equal to the new PSW.DD: the SetDD instructions and RTI (R550, D28). -/
def retireSync (r : Res State) : Host.Outcome State Fault Refusal :=
  finish (do let t ← r; return t.setDdFetch (Psw.dd t.psw))

/-- The end of POPS with PSW in its list: DD_FETCH is a draw between the old and the new DD (R244, R550, D13, log 10). -/
def retireDraw (s : State) (r : Res State) : Host.Outcome State Fault Refusal :=
  finish (do
    let t ← r
    let d := if Config.freeBit t.draws then Psw.dd t.psw else Psw.dd s.psw
    return (t.draw 1).setDdFetch d)

/-- `SetDD(v)` on PSW (R200); DD_FETCH follows at the end, by retireSync. -/
def State.setDD (s : State) (v : Bool) : State := s.setPsw (Psw.setDd s.psw v)

end Sys2Proof.Machine
end

