-- ==== Sys2Proof/Machine/Operands.lean ====
section
/-! DEFINITION. Operand locations: every addressing mode of 30_encoding.md R140 to R145, R152, and the accessors of R136. -/

namespace Sys2Proof.Machine

/-- A location (R136). -/
inductive Loc where
  /-- `LA`: the accumulator. -/
  | acc
  /-- `LP(p)`: a register held at offset p of data segment 0. -/
  | phys (off : Word)
  /-- `LS(0)` PSWL or `LS(1)` PSWH. -/
  | psw (high : Bool)
  /-- `LD(off)`: data memory at a 16-bit offset. -/
  | data (off : Word)
deriving DecidableEq, Repr

/-- The location of an addressing mode and the state after its DP update. `step` is what [DP+] and [DP-] move DP by: 2 for
a word instruction, 1 for a byte or bit instruction (R140, R141, R142). The update is made when the location is computed
(R143, D6, log 17). -/
def modeLoc (step : Word) (m : Mode) (s : State) : Res (Loc × State) :=
  match m with
  | .x1 => do let x ← prRead s .x1; return (.data x, s)
  | .dpDec => do let x ← prRead s .dp; let t ← prWrite s .dp (x - step); return (.data x, t)
  | .dp => do let x ← prRead s .dp; return (.data x, s)
  | .dpInc => do let x ← prRead s .dp; let t ← prWrite s .dp (x + step); return (.data x, t)
  | .fix a => .ok (.data (0x200 + zext a), s)
  | .off a => .ok (.data (mkWord (hiByte s.lrb) a), s)
  | .sfr a => .ok (.data (zext a), s)
  | .dir w => .ok (.data w, s)
  | .d16x1 d => do let x ← prRead s .x1; return (.data (x + d), s)
  | .d16x2 d => do let x ← prRead s .x2; return (.data (x + d), s)
  | .x1A => do let x ← prRead s .x1; return (.data (x + zext (loByte s.a)), s)
  | .x1R0 => do
      let x ← prRead s .x1
      let r ← rRead s .r0
      return (.data (x + zext r), s)
  | .n7dp n => do let x ← prRead s .dp; return (.data (x + sext7 n), s)
  | .n7usp n => do let x ← prRead s .usp; return (.data (x + sext7 n), s)

/-- The location a word prefix selects (R140). -/
def locW (p : WOp) (s : State) : Res (Loc × State) :=
  match p with
  | .acc => .ok (.acc, s)
  | .er n => .ok (.phys (s.rAddr (2 * n.num)), s)
  | .pr n => .ok (.phys (s.prAddr n), s)
  | .mem m => modeLoc 2 m s

/-- The location a byte prefix selects (R141). -/
def locB (p : BOp) (s : State) : Res (Loc × State) :=
  match p with
  | .acc => .ok (.acc, s)
  | .r n => .ok (.phys (s.rAddr n.num), s)
  | .pswl => .ok (.psw false, s)
  | .pswh => .ok (.psw true, s)
  | .mem m => modeLoc 1 m s

/-- The byte of an SBA bit operand: `LD(02C0H + k)` (R152). -/
def sbafixLoc (k : BitVec 6) : Loc := .data (0x2C0 + k.setWidth 16)

/-- The byte of an SBA bit operand: `LD(LRBH*100H + 0C0H + k)` (R152). -/
def sbaoffLoc (s : State) (k : BitVec 6) : Loc := .data (mkWord (hiByte s.lrb) 0 + 0xC0 + k.setWidth 16)

/-- Whether the device makes an exception to the word boundary for a word access at this offset: an odd address of one of its
own SFRs; the core's registers follow the even-address rule (R83, R142, U11, log 41). -/
def sfrOddWord (s : State) (off : Word) : Bool :=
  isSfr (s.physSeg off) off && off.getLsbD 0 && s.dev.sfrOddWords.contains off.toNat &&
    (match sfrAt s.dev off.toNat with
    | .device _ => true
    | _ => false)

/-- `RdW(loc)` (R136). PSWL and PSWH have no word accessor; no word prefix gives one, and the whole of PSW is read. -/
def rdW (l : Loc) (s : State) : Res Word :=
  match l with
  | .acc => .ok s.a
  | .phys p => memReadWord s 0 p
  | .psw _ => .ok s.psw
  | .data off => if sfrOddWord s off then stopFault .sfrWordException else dReadWord s off

/-- `WrW(loc, v)` (R136). -/
def wrW (l : Loc) (v : Word) (s : State) : Res State :=
  match l with
  | .acc => .ok (s.setA v)
  | .phys p => memWriteWord s 0 p v
  | .psw _ => .ok (s.setPsw v)
  | .data off => if sfrOddWord s off then stopFault .sfrWordException else dWriteWord s off v

/-- `RdB(loc)` (R136). -/
def rdB (l : Loc) (s : State) : Res Byte :=
  match l with
  | .acc => .ok (loByte s.a)
  | .phys p => memReadByte s 0 p
  | .psw high => .ok (if high then hiByte s.psw else loByte s.psw)
  | .data off => dReadByte s off

/-- `WrB(loc, v)` (R136): AH is unchanged for `LA`. -/
def wrB (l : Loc) (v : Byte) (s : State) : Res State :=
  match l with
  | .acc => .ok (s.setA (setLo s.a v))
  | .phys p => memWriteByte s 0 p v
  | .psw high => .ok (s.setPsw (if high then setHi s.psw v else setLo s.psw v))
  | .data off => dWriteByte s off v

/-- `Up(loc, d)`: the byte d bytes above a location (47_bit.md R392, log 30). -/
def upLoc (l : Loc) (d : Nat) : Loc :=
  match l with
  | .acc => .acc
  | .phys p => .phys (p + BitVec.ofNat 16 d)
  | .psw high =>
    let n := high.toNat + d
    if n ≤ 1 then .psw (n == 1) else .data (BitVec.ofNat 16 (4 + n))
  | .data off => .data (off + BitVec.ofNat 16 d)

/-! ## Second operands of the two-operand instructions (44_arithmetic.md R295) -/

/-- What a source operand is. -/
inductive Src (w : Nat) where
  /-- An addressing mode: fix, off or sfr (R295). -/
  | mem (m : Mode)
  /-- An immediate (R149). -/
  | imm (v : BitVec w)
  /-- The accumulator, whatever DD is (R295). -/
  | acc
deriving DecidableEq, Repr

/-- The state after a word source is located, and how to read it: its location or its value (R143 step 4). -/
def srcLocW (q : Src 16) (s : State) : Res ((Loc ⊕ Word) × State) :=
  match q with
  | .mem m => do let (l, t) ← modeLoc 2 m s; return (.inl l, t)
  | .imm v => .ok (.inr v, s)
  | .acc => .ok (.inl .acc, s)

/-- The same for a byte source. -/
def srcLocB (q : Src 8) (s : State) : Res ((Loc ⊕ Byte) × State) :=
  match q with
  | .mem m => do let (l, t) ← modeLoc 1 m s; return (.inl l, t)
  | .imm v => .ok (.inr v, s)
  | .acc => .ok (.inl .acc, s)

/-- Read a located word source. -/
def srcRdW (q : Loc ⊕ Word) (s : State) : Res Word :=
  match q with
  | .inl l => rdW l s
  | .inr v => .ok v

/-- Read a located byte source. -/
def srcRdB (q : Loc ⊕ Byte) (s : State) : Res Byte :=
  match q with
  | .inl l => rdB l s
  | .inr v => .ok v

end Sys2Proof.Machine
end

