-- ==== Sys2Proof/Machine/DataMove.lean ====
section
/-! DEFINITION. Data movement (40_data_move.md): L, LB, ST, STB, MOV, MOVB, CLR, CLRB, FILL, FILLB, XCHG, XCHGB, SWAP. -/

namespace Sys2Proof.Machine

/-! ## Shared operations -/

/-- `A <- v; Z <- (v = 0); SetDD(1)` (R201 to R204). -/
def State.loadWord (s : State) (v : Word) : State :=
  (s.setA v).setPsw (Psw.setDd (Psw.setZ s.psw (v == 0)) true)

/-- `AL <- v; Z <- (v = 0); SetDD(0)`, AH unchanged (R205 to R207). -/
def State.loadByte (s : State) (v : Byte) : State :=
  (s.setA (setLo s.a v)).setPsw (Psw.setDd (Psw.setZ s.psw (v == 0)) false)

/-- `L A,obj` (R202 to R204). -/
def loadW (p : WOp) (s : State) : Host.Outcome State Fault Refusal :=
  retireSync (do
    let (l, t) ← locW p s
    let v ← rdW l t
    return t.loadWord v)

/-- `LB A,obj` (R206, R207). -/
def loadB (p : BOp) (s : State) : Host.Outcome State Fault Refusal :=
  retireSync (do
    let (l, t) ← locB p s
    let v ← rdB l t
    return t.loadByte v)

/-- `WrW(dst, RdW(src))`: the source location first, then the destination location, then the read, then the write (R143,
R218). With the accumulator as one of the two it is ST, MOV A,** and MOV **,A. -/
def moveW (dst src : WOp) (s : State) : Host.Outcome State Fault Refusal :=
  retire s (do
    let (p, t) ← locW src s
    let (q, t) ← locW dst t
    let v ← rdW p t
    wrW q v t)

/-- `WrB(dst, RdB(src))` (R143, R225). -/
def moveB (dst src : BOp) (s : State) : Host.Outcome State Fault Refusal :=
  retire s (do
    let (p, t) ← locB src s
    let (q, t) ← locB dst t
    let v ← rdB p t
    wrB q v t)

/-- `WrW(dst, v)` for a constant v (R214, R215, R220, R229, R233). -/
def moveImmW (dst : WOp) (v : Word) (s : State) : Host.Outcome State Fault Refusal :=
  retire s (do
    let (q, t) ← locW dst s
    wrW q v t)

/-- `WrB(dst, v)` for a constant v (R221, R222, R227, R231, R235). -/
def moveImmB (dst : BOp) (v : Byte) (s : State) : Host.Outcome State Fault Refusal :=
  retire s (do
    let (q, t) ← locB dst s
    wrB q v t)

/-- The end of a word class (c) instruction: it runs only when DD_FETCH agrees with its word prefix (R135, D26, log 28). -/
def classW (s : State) (k : Host.Outcome State Fault Refusal) : Host.Outcome State Fault Refusal :=
  if s.ddFetch then k else .fault .ddMismatch

/-- The end of a byte class (c) instruction: it runs only when DD_FETCH agrees with its byte prefix (R135, D26, log 28). -/
def classB (s : State) (k : Host.Outcome State Fault Refusal) : Host.Outcome State Fault Refusal :=
  if s.ddFetch then .fault .ddMismatch else k

/-- `t <- RdW(P); WrW(P, A); A <- t` (R236). -/
def exchangeW (p : WOp) (s : State) : Host.Outcome State Fault Refusal :=
  retire s (do
    let (l, t) ← locW p s
    let v ← rdW l t
    let u ← wrW l t.a t
    return u.setA v)

/-- `t <- RdB(P); WrB(P, AL); AL <- t` (R237). -/
def exchangeB (p : BOp) (s : State) : Host.Outcome State Fault Refusal :=
  retire s (do
    let (l, t) ← locB p s
    let v ← rdB l t
    let u ← wrB l (loByte t.a) t
    return u.setA (setLo u.a v))

/-! ## The instructions -/

/-- `L A,#N16` (R201). -/
def execLAImm (v : Word) (s : State) : Host.Outcome State Fault Refusal :=
  retireSync (.ok (s.loadWord v))

/-- `L A,ERn` (R202). -/
def execLAEr (n : ER) (s : State) : Host.Outcome State Fault Refusal :=
  loadW (.er n) s

/-- `L A,PRn` (R203). -/
def execLAPr (n : PR) (s : State) : Host.Outcome State Fault Refusal :=
  loadW (.pr n) s

/-- `L A,[X1]` (R204). -/
def execLAX1 (s : State) : Host.Outcome State Fault Refusal :=
  loadW (.mem .x1) s

/-- `LB A,[X1]` (R207). -/
def execLbAX1 (s : State) : Host.Outcome State Fault Refusal :=
  loadB (.mem .x1) s

/-- `L A,[DP-]` (R204). -/
def execLADpDec (s : State) : Host.Outcome State Fault Refusal :=
  loadW (.mem .dpDec) s

/-- `LB A,[DP-]` (R207). -/
def execLbADpDec (s : State) : Host.Outcome State Fault Refusal :=
  loadB (.mem .dpDec) s

/-- `L A,[DP]` (R204). -/
def execLADp (s : State) : Host.Outcome State Fault Refusal :=
  loadW (.mem .dp) s

/-- `LB A,[DP]` (R207). -/
def execLbADp (s : State) : Host.Outcome State Fault Refusal :=
  loadB (.mem .dp) s

/-- `L A,[DP+]` (R204). -/
def execLADpInc (s : State) : Host.Outcome State Fault Refusal :=
  loadW (.mem .dpInc) s

/-- `LB A,[DP+]` (R207). -/
def execLbADpInc (s : State) : Host.Outcome State Fault Refusal :=
  loadB (.mem .dpInc) s

/-- `L A,fix` (R204). -/
def execLAFix (a : Byte) (s : State) : Host.Outcome State Fault Refusal :=
  loadW (.mem (.fix a)) s

/-- `LB A,fix` (R207). -/
def execLbAFix (a : Byte) (s : State) : Host.Outcome State Fault Refusal :=
  loadB (.mem (.fix a)) s

/-- `L A,off` (R204). -/
def execLAOff (a : Byte) (s : State) : Host.Outcome State Fault Refusal :=
  loadW (.mem (.off a)) s

/-- `LB A,off` (R207). -/
def execLbAOff (a : Byte) (s : State) : Host.Outcome State Fault Refusal :=
  loadB (.mem (.off a)) s

/-- `L A,sfr` (R204). -/
def execLASfr (a : Byte) (s : State) : Host.Outcome State Fault Refusal :=
  loadW (.mem (.sfr a)) s

/-- `LB A,sfr` (R207). -/
def execLbASfr (a : Byte) (s : State) : Host.Outcome State Fault Refusal :=
  loadB (.mem (.sfr a)) s

/-- `L A,dir` (R204). -/
def execLADir (w : Word) (s : State) : Host.Outcome State Fault Refusal :=
  loadW (.mem (.dir w)) s

/-- `LB A,dir` (R207). -/
def execLbADir (w : Word) (s : State) : Host.Outcome State Fault Refusal :=
  loadB (.mem (.dir w)) s

/-- `L A,D16[X1]` (R204). -/
def execLAD16X1 (w : Word) (s : State) : Host.Outcome State Fault Refusal :=
  loadW (.mem (.d16x1 w)) s

/-- `LB A,D16[X1]` (R207). -/
def execLbAD16X1 (w : Word) (s : State) : Host.Outcome State Fault Refusal :=
  loadB (.mem (.d16x1 w)) s

/-- `L A,n7[USP] (b2[7]=0) / n7[DP] (b2[7]=1)` (R204). -/
def execLAN7 (b : N7Base) (n : BitVec 7) (s : State) : Host.Outcome State Fault Refusal :=
  loadW (.mem (n7Mode b n)) s

/-- `LB A,n7[USP] (b2[7]=0) / n7[DP] (b2[7]=1)` (R207). -/
def execLbAN7 (b : N7Base) (n : BitVec 7) (s : State) : Host.Outcome State Fault Refusal :=
  loadB (.mem (n7Mode b n)) s

/-- `LB A,#N8` (R205). -/
def execLbAImm (v : Byte) (s : State) : Host.Outcome State Fault Refusal :=
  retireSync (.ok (s.loadByte v))

/-- `LB A,Rn` (R206). -/
def execLbAR (n : R8) (s : State) : Host.Outcome State Fault Refusal :=
  loadB (.r n) s

/-- `ST A,ERn` (R208). -/
def execStAEr (n : ER) (s : State) : Host.Outcome State Fault Refusal :=
  moveW (.er n) .acc s

/-- `ST A,PRn` (R208). -/
def execStAPr (n : PR) (s : State) : Host.Outcome State Fault Refusal :=
  moveW (.pr n) .acc s

/-- `STB A,Rn` (R211). -/
def execStbAR (n : R8) (s : State) : Host.Outcome State Fault Refusal :=
  moveB (.r n) .acc s

/-- `ST A,[X1]` (R209). -/
def execStAX1 (s : State) : Host.Outcome State Fault Refusal :=
  moveW (.mem .x1) .acc s

/-- `STB A,[X1]` (R212). -/
def execStbAX1 (s : State) : Host.Outcome State Fault Refusal :=
  moveB (.mem .x1) .acc s

/-- `ST A,[DP-]` (R209). -/
def execStADpDec (s : State) : Host.Outcome State Fault Refusal :=
  moveW (.mem .dpDec) .acc s

/-- `STB A,[DP-]` (R212). -/
def execStbADpDec (s : State) : Host.Outcome State Fault Refusal :=
  moveB (.mem .dpDec) .acc s

/-- `ST A,[DP]` (R209). -/
def execStADp (s : State) : Host.Outcome State Fault Refusal :=
  moveW (.mem .dp) .acc s

/-- `STB A,[DP]` (R212). -/
def execStbADp (s : State) : Host.Outcome State Fault Refusal :=
  moveB (.mem .dp) .acc s

/-- `ST A,[DP+]` (R209). -/
def execStADpInc (s : State) : Host.Outcome State Fault Refusal :=
  moveW (.mem .dpInc) .acc s

/-- `STB A,[DP+]` (R212). -/
def execStbADpInc (s : State) : Host.Outcome State Fault Refusal :=
  moveB (.mem .dpInc) .acc s

/-- `ST A,fix` (R209). -/
def execStAFix (a : Byte) (s : State) : Host.Outcome State Fault Refusal :=
  moveW (.mem (.fix a)) .acc s

/-- `STB A,fix` (R212). -/
def execStbAFix (a : Byte) (s : State) : Host.Outcome State Fault Refusal :=
  moveB (.mem (.fix a)) .acc s

/-- `ST A,off` (R209). -/
def execStAOff (a : Byte) (s : State) : Host.Outcome State Fault Refusal :=
  moveW (.mem (.off a)) .acc s

/-- `STB A,off` (R212). -/
def execStbAOff (a : Byte) (s : State) : Host.Outcome State Fault Refusal :=
  moveB (.mem (.off a)) .acc s

/-- `ST A,sfr` (R209). -/
def execStASfr (a : Byte) (s : State) : Host.Outcome State Fault Refusal :=
  moveW (.mem (.sfr a)) .acc s

/-- `STB A,sfr` (R212). -/
def execStbASfr (a : Byte) (s : State) : Host.Outcome State Fault Refusal :=
  moveB (.mem (.sfr a)) .acc s

/-- `ST A,dir` (R209). -/
def execStADir (w : Word) (s : State) : Host.Outcome State Fault Refusal :=
  moveW (.mem (.dir w)) .acc s

/-- `STB A,dir` (R212). -/
def execStbADir (w : Word) (s : State) : Host.Outcome State Fault Refusal :=
  moveB (.mem (.dir w)) .acc s

/-- `ST A,D16[X1]` (R209). -/
def execStAD16X1 (w : Word) (s : State) : Host.Outcome State Fault Refusal :=
  moveW (.mem (.d16x1 w)) .acc s

/-- `STB A,D16[X1]` (R212). -/
def execStbAD16X1 (w : Word) (s : State) : Host.Outcome State Fault Refusal :=
  moveB (.mem (.d16x1 w)) .acc s

/-- `ST A,n7[USP] (b2[7]=0) / n7[DP] (b2[7]=1)` (R209). -/
def execStAN7 (b : N7Base) (n : BitVec 7) (s : State) : Host.Outcome State Fault Refusal :=
  moveW (.mem (n7Mode b n)) .acc s

/-- `STB A,n7[USP] (b2[7]=0) / n7[DP] (b2[7]=1)` (R212). -/
def execStbAN7 (b : N7Base) (n : BitVec 7) (s : State) : Host.Outcome State Fault Refusal :=
  moveB (.mem (n7Mode b n)) .acc s

/-- `ST A,D16[X2]` (R210). -/
def execStAD16X2 (w : Word) (s : State) : Host.Outcome State Fault Refusal :=
  moveW (.mem (.d16x2 w)) .acc s

/-- `STB A,D16[X2]` (R213). -/
def execStbAD16X2 (w : Word) (s : State) : Host.Outcome State Fault Refusal :=
  moveB (.mem (.d16x2 w)) .acc s

/-- `MOV PRn,#N16` (R214). -/
def execMovPrImm (n : PR) (v : Word) (s : State) : Host.Outcome State Fault Refusal :=
  moveImmW (.pr n) v s

/-- `MOV ERn,#N16` (R214). -/
def execMovErImm (n : ER) (v : Word) (s : State) : Host.Outcome State Fault Refusal :=
  moveImmW (.er n) v s

/-- `MOV sfr,#N16` (R215). -/
def execMovSfrImm (a : Byte) (v : Word) (s : State) : Host.Outcome State Fault Refusal :=
  moveImmW (.mem (.sfr a)) v s

/-- `MOV off,#N16` (R215). -/
def execMovOffImm (a : Byte) (v : Word) (s : State) : Host.Outcome State Fault Refusal :=
  moveImmW (.mem (.off a)) v s

/-- `MOVB Rn,#N8` (R221). -/
def execMovbRImm (n : R8) (v : Byte) (s : State) : Host.Outcome State Fault Refusal :=
  moveImmB (.r n) v s

/-- `MOVB sfr,#N8` (R222). -/
def execMovbSfrImm (a : Byte) (v : Byte) (s : State) : Host.Outcome State Fault Refusal :=
  moveImmB (.mem (.sfr a)) v s

/-- `MOVB off,#N8` (R222). -/
def execMovbOffImm (a : Byte) (v : Byte) (s : State) : Host.Outcome State Fault Refusal :=
  moveImmB (.mem (.off a)) v s

/-- `CLR A` (R228). -/
def execClrA (s : State) : Host.Outcome State Fault Refusal :=
  retireSync (.ok (s.loadWord 0))

/-- `CLRB A` (R230). -/
def execClrbA (s : State) : Host.Outcome State Fault Refusal :=
  retireSync (.ok (s.loadByte 0))

/-- `SWAP` (R238). -/
def execSwap (s : State) : Host.Outcome State Fault Refusal :=
  retire s (.ok (s.setA (mkWord (loByte s.a) (hiByte s.a))))

/-- `MOV A,**` (R216). -/
def execMovAW (p : WOp) (s : State) : Host.Outcome State Fault Refusal :=
  moveW .acc p s

/-- `MOV ERn,**` (R217). -/
def execMovErW (n : ER) (p : WOp) (s : State) : Host.Outcome State Fault Refusal :=
  moveW (.er n) p s

/-- `MOV PRn,**` (R217). -/
def execMovPrW (n : PR) (p : WOp) (s : State) : Host.Outcome State Fault Refusal :=
  moveW (.pr n) p s

/-- `MOV fix,**` (R218). -/
def execMovFixW (a : Byte) (p : WOp) (s : State) : Host.Outcome State Fault Refusal :=
  moveW (.mem (.fix a)) p s

/-- `MOV off,**` (R218). -/
def execMovOffW (a : Byte) (p : WOp) (s : State) : Host.Outcome State Fault Refusal :=
  moveW (.mem (.off a)) p s

/-- `MOV [X1],**` (R218). -/
def execMovX1W (p : WOp) (s : State) : Host.Outcome State Fault Refusal :=
  moveW (.mem .x1) p s

/-- `MOV [DP-],**` (R218). -/
def execMovDpDecW (p : WOp) (s : State) : Host.Outcome State Fault Refusal :=
  moveW (.mem .dpDec) p s

/-- `MOV [DP],**` (R218). -/
def execMovDpW (p : WOp) (s : State) : Host.Outcome State Fault Refusal :=
  moveW (.mem .dp) p s

/-- `MOV [DP+],**` (R218). -/
def execMovDpIncW (p : WOp) (s : State) : Host.Outcome State Fault Refusal :=
  moveW (.mem .dpInc) p s

/-- `MOV sfr,**` (R218). -/
def execMovSfrW (a : Byte) (p : WOp) (s : State) : Host.Outcome State Fault Refusal :=
  moveW (.mem (.sfr a)) p s

/-- `MOV D16[X1],**` (R218). -/
def execMovD16X1W (w : Word) (p : WOp) (s : State) : Host.Outcome State Fault Refusal :=
  moveW (.mem (.d16x1 w)) p s

/-- `MOV D16[X2],**` (R218). -/
def execMovD16X2W (w : Word) (p : WOp) (s : State) : Host.Outcome State Fault Refusal :=
  moveW (.mem (.d16x2 w)) p s

/-- `MOV n7[DP] (b[7]=0) / n7[USP] (b[7]=1),**` (R218). -/
def execMovN7W (b : N7Base) (n : BitVec 7) (p : WOp) (s : State) : Host.Outcome State Fault Refusal :=
  moveW (.mem (n7Mode b n)) p s

/-- `MOV dir,**` (R218). -/
def execMovDirW (w : Word) (p : WOp) (s : State) : Host.Outcome State Fault Refusal :=
  moveW (.mem (.dir w)) p s

/-- `MOV [X1+A],**` (R218). -/
def execMovX1AW (p : WOp) (s : State) : Host.Outcome State Fault Refusal :=
  moveW (.mem .x1A) p s

/-- `MOV [X1+R0],**` (R218). -/
def execMovX1R0W (p : WOp) (s : State) : Host.Outcome State Fault Refusal :=
  moveW (.mem .x1R0) p s

/-- `MOV **,A` (R219). -/
def execMovWA (p : WOp) (s : State) : Host.Outcome State Fault Refusal :=
  moveW p .acc s

/-- `MOV **,#N16` (R220). -/
def execMovWImm (p : WOp) (v : Word) (s : State) : Host.Outcome State Fault Refusal :=
  moveImmW p v s

/-- `MOVB A,*` (R223). -/
def execMovbAB (p : BOp) (s : State) : Host.Outcome State Fault Refusal :=
  moveB .acc p s

/-- `MOVB Rn,*` (R224). -/
def execMovbRB (n : R8) (p : BOp) (s : State) : Host.Outcome State Fault Refusal :=
  moveB (.r n) p s

/-- `MOVB fix,*` (R225). -/
def execMovbFixB (a : Byte) (p : BOp) (s : State) : Host.Outcome State Fault Refusal :=
  moveB (.mem (.fix a)) p s

/-- `MOVB off,*` (R225). -/
def execMovbOffB (a : Byte) (p : BOp) (s : State) : Host.Outcome State Fault Refusal :=
  moveB (.mem (.off a)) p s

/-- `MOVB [X1],*` (R225). -/
def execMovbX1B (p : BOp) (s : State) : Host.Outcome State Fault Refusal :=
  moveB (.mem .x1) p s

/-- `MOVB [DP-],*` (R225). -/
def execMovbDpDecB (p : BOp) (s : State) : Host.Outcome State Fault Refusal :=
  moveB (.mem .dpDec) p s

/-- `MOVB [DP],*` (R225). -/
def execMovbDpB (p : BOp) (s : State) : Host.Outcome State Fault Refusal :=
  moveB (.mem .dp) p s

/-- `MOVB [DP+],*` (R225). -/
def execMovbDpIncB (p : BOp) (s : State) : Host.Outcome State Fault Refusal :=
  moveB (.mem .dpInc) p s

/-- `MOVB sfr,*` (R225). -/
def execMovbSfrB (a : Byte) (p : BOp) (s : State) : Host.Outcome State Fault Refusal :=
  moveB (.mem (.sfr a)) p s

/-- `MOVB D16[X1],*` (R225). -/
def execMovbD16X1B (w : Word) (p : BOp) (s : State) : Host.Outcome State Fault Refusal :=
  moveB (.mem (.d16x1 w)) p s

/-- `MOVB D16[X2],*` (R225). -/
def execMovbD16X2B (w : Word) (p : BOp) (s : State) : Host.Outcome State Fault Refusal :=
  moveB (.mem (.d16x2 w)) p s

/-- `MOVB n7[DP] (b[7]=0) / n7[USP] (b[7]=1),*` (R225). -/
def execMovbN7B (b : N7Base) (n : BitVec 7) (p : BOp) (s : State) : Host.Outcome State Fault Refusal :=
  moveB (.mem (n7Mode b n)) p s

/-- `MOVB dir,*` (R225). -/
def execMovbDirB (w : Word) (p : BOp) (s : State) : Host.Outcome State Fault Refusal :=
  moveB (.mem (.dir w)) p s

/-- `MOVB [X1+A],*` (R225). -/
def execMovbX1AB (p : BOp) (s : State) : Host.Outcome State Fault Refusal :=
  moveB (.mem .x1A) p s

/-- `MOVB [X1+R0],*` (R225). -/
def execMovbX1R0B (p : BOp) (s : State) : Host.Outcome State Fault Refusal :=
  moveB (.mem .x1R0) p s

/-- `MOVB *,A` (R226). -/
def execMovbBA (p : BOp) (s : State) : Host.Outcome State Fault Refusal :=
  moveB p .acc s

/-- `MOVB *,#N8` (R227). -/
def execMovbBImm (p : BOp) (v : Byte) (s : State) : Host.Outcome State Fault Refusal :=
  moveImmB p v s

/-- `CLR **` (R229). -/
def execClrW (p : WOp) (s : State) : Host.Outcome State Fault Refusal :=
  moveImmW p 0 s

/-- `CLRB *` (R231). -/
def execClrbB (p : BOp) (s : State) : Host.Outcome State Fault Refusal :=
  moveImmB p 0 s

/-- `FILL A` (R232). -/
def execFillA (s : State) : Host.Outcome State Fault Refusal :=
  moveImmW .acc 0xFFFF s

/-- `FILLB A` (R234). -/
def execFillbA (s : State) : Host.Outcome State Fault Refusal :=
  moveImmB .acc 0xFF s

/-- `FILL **` (R233). -/
def execFillW (p : WOp) (s : State) : Host.Outcome State Fault Refusal :=
  moveImmW p 0xFFFF s

/-- `FILLB *` (R235). -/
def execFillbB (p : BOp) (s : State) : Host.Outcome State Fault Refusal :=
  moveImmB p 0xFF s

/-- `XCHG A,**` (R236). -/
def execXchgAW (p : WOp) (s : State) : Host.Outcome State Fault Refusal :=
  classW s (exchangeW p s)

/-- `XCHGB A,*` (R237). -/
def execXchgbAB (p : BOp) (s : State) : Host.Outcome State Fault Refusal :=
  classB s (exchangeB p s)

end Sys2Proof.Machine
end

