-- ==== Sys2Proof/Machine/Arith.lean ====
section
/-! DEFINITION. Arithmetic (44_arithmetic.md): ADD, ADC, SUB, SBC, CMP, NEG, MUL, SQR, DIV, DIVQ and their byte forms. -/

namespace Sys2Proof.Machine

/-! ## Shared operations, used by the logical instructions too -/

/-- `A <- op(A, y)` with the flags of the operation; a comparison writes the flags alone. -/
def State.aluAccW (s : State) (op : AluOp) (y : Word) : State :=
  let r := aluRun op s.psw s.a y
  if op.writes then (s.setPsw r.2).setA r.1 else s.setPsw r.2

/-- `AL <- op(AL, y)`, AH unchanged. -/
def State.aluAccB (s : State) (op : AluOp) (y : Byte) : State :=
  let r := aluRun op s.psw (loByte s.a) y
  if op.writes then (s.setPsw r.2).setA (setLo s.a r.1) else s.setPsw r.2

/-- `op A,obj`, obj in a register or in memory (R295 shapes n and c). -/
def aluAW (op : AluOp) (p : WOp) (s : State) : Host.Outcome State Fault Refusal :=
  retire s (do
    let (l, t) ← locW p s
    let y ← rdW l t
    return t.aluAccW op y)

/-- `opB A,obj` (R295 shapes n and c). -/
def aluAB (op : AluOp) (p : BOp) (s : State) : Host.Outcome State Fault Refusal :=
  retire s (do
    let (l, t) ← locB p s
    let y ← rdB l t
    return t.aluAccB op y)

/-- `op A,#N16` (R295 shape n). -/
def aluAImmW (op : AluOp) (v : Word) (s : State) : Host.Outcome State Fault Refusal :=
  retire s (.ok (s.aluAccW op v))

/-- `opB A,#N8` (R295 shape n). -/
def aluAImmB (op : AluOp) (v : Byte) (s : State) : Host.Outcome State Fault Refusal :=
  retire s (.ok (s.aluAccB op v))

/-- `op **,obj2` (R295 shape m): locate P, locate Q, read P, read Q, compute, then write. The flags are written before P,
so that a destination in PSW overrides them (D11, log 20). -/
def aluMW (op : AluOp) (p : WOp) (q : Src 16) (s : State) : Host.Outcome State Fault Refusal :=
  retire s (do
    let (l, t) ← locW p s
    let (m, t) ← srcLocW q t
    let x ← rdW l t
    let y ← srcRdW m t
    let r := aluRun op t.psw x y
    let u := t.setPsw r.2
    if op.writes then wrW l r.1 u else .ok u)

/-- `opB *,obj2` (R295 shape m). -/
def aluMB (op : AluOp) (p : BOp) (q : Src 8) (s : State) : Host.Outcome State Fault Refusal :=
  retire s (do
    let (l, t) ← locB p s
    let (m, t) ← srcLocB q t
    let x ← rdB l t
    let y ← srcRdB m t
    let r := aluRun op t.psw x y
    let u := t.setPsw r.2
    if op.writes then wrB l r.1 u else .ok u)

/-! ## Multiplication and division -/

/-- `<A,ER0> <- A * m; Z <- (p = 0)` (R330, R332). -/
def State.mulWord (s : State) (m : Word) : Res State := do
  let p : BitVec 32 := s.a.setWidth 32 * m.setWidth 32
  let t := (s.setA (p.extractLsb' 16 16)).setPsw (Psw.setZ s.psw (p == 0))
  erWrite t .er0 (p.extractLsb' 0 16)

/-- `A <- AL * m; Z <- (A = 0)` (R331, R333). -/
def State.mulByte (s : State) (m : Byte) : State :=
  let p : Word := zext (loByte s.a) * zext m
  (s.setA p).setPsw (Psw.setZ s.psw (p == 0))

/-- `DIV` by d (R334). By zero: C is 1, and A, ER0, ER1 and Z are free values (D19, log 9). -/
def State.divWord (s : State) (d : Word) : Res State := do
  let lo ← erRead s .er0
  if d = 0 then
    let k := s.draws
    let s := (s.setA (Config.freeWord k)).setPsw (Psw.setZ (Psw.setC s.psw true) (Config.freeBit k))
    let s ← erWrite s .er0 (Config.freeWord (k + 1))
    let s ← erWrite s .er1 (Config.freeWord (k + 2))
    return s.draw 3
  else
    let n := s.a.toNat * 0x10000 + lo.toNat
    let q : BitVec 32 := BitVec.ofNat 32 (n / d.toNat)
    let r : Word := BitVec.ofNat 16 (n % d.toNat)
    let s := (s.setA (q.extractLsb' 16 16)).setPsw (Psw.setZ (Psw.setC s.psw false) (q == 0))
    let s ← erWrite s .er0 (q.extractLsb' 0 16)
    erWrite s .er1 r

/-- `DIVB` by d (R335). By zero: C is 1, and A, R1 and Z are free values (D19, log 9). -/
def State.divByte (s : State) (d : Byte) : Res State :=
  if d = 0 then do
    let k := s.draws
    let s := (s.setA (Config.freeWord k)).setPsw (Psw.setZ (Psw.setC s.psw true) (Config.freeBit k))
    let s ← rWrite s .r1 (Config.freeByte k)
    return s.draw 1
  else
    let q : Word := BitVec.ofNat 16 (s.a.toNat / d.toNat)
    let r : Byte := BitVec.ofNat 8 (s.a.toNat % d.toNat)
    let s := (s.setA q).setPsw (Psw.setZ (Psw.setC s.psw false) (q == 0))
    rWrite s .r1 r

/-- `DIVQ` by d (R336). By zero: C is 1, and A, ER1, Z and OV are free values. When the quotient exceeds 65535: C is 0, OV
is 1, and A, ER1 and Z are free values (D19, log 9). ER0 is never written. -/
def State.divQuick (s : State) (d : Word) : Res State := do
  let lo ← erRead s .er0
  let k := s.draws
  if d = 0 then
    let p := Psw.setOv (Psw.setZ (Psw.setC s.psw true) (Config.freeBit k)) (Config.freeBit (k + 1))
    let s ← erWrite ((s.setA (Config.freeWord k)).setPsw p) .er1 (Config.freeWord (k + 1))
    return s.draw 2
  else
    let n := s.a.toNat * 0x10000 + lo.toNat
    if n / d.toNat > 65535 then
      let p := Psw.setOv (Psw.setZ (Psw.setC s.psw false) (Config.freeBit k)) true
      let s ← erWrite ((s.setA (Config.freeWord k)).setPsw p) .er1 (Config.freeWord (k + 1))
      return s.draw 2
    else
      let q : Word := BitVec.ofNat 16 (n / d.toNat)
      let r : Word := BitVec.ofNat 16 (n % d.toNat)
      let p := Psw.setOv (Psw.setZ (Psw.setC s.psw false) (q == 0)) false
      erWrite ((s.setA q).setPsw p) .er1 r

/-! ## The instructions -/

/-- `ADD A,ERn` (R296). -/
def execAddAEr (n : ER) (s : State) : Host.Outcome State Fault Refusal :=
  aluAW .add (.er n) s

/-- `ADD A,PRn` (R296). -/
def execAddAPr (n : PR) (s : State) : Host.Outcome State Fault Refusal :=
  aluAW .add (.pr n) s

/-- `ADDB A,Rn` (R299). -/
def execAddbAR (n : R8) (s : State) : Host.Outcome State Fault Refusal :=
  aluAB .add (.r n) s

/-- `ADD A,fix` (R296). -/
def execAddAFix (a : Byte) (s : State) : Host.Outcome State Fault Refusal :=
  aluAW .add (.mem (.fix a)) s

/-- `ADDB A,fix` (R299). -/
def execAddbAFix (a : Byte) (s : State) : Host.Outcome State Fault Refusal :=
  aluAB .add (.mem (.fix a)) s

/-- `ADD A,off` (R296). -/
def execAddAOff (a : Byte) (s : State) : Host.Outcome State Fault Refusal :=
  aluAW .add (.mem (.off a)) s

/-- `ADDB A,off` (R299). -/
def execAddbAOff (a : Byte) (s : State) : Host.Outcome State Fault Refusal :=
  aluAB .add (.mem (.off a)) s

/-- `ADD A,#N16` (R296). -/
def execAddAImm (v : Word) (s : State) : Host.Outcome State Fault Refusal :=
  aluAImmW .add v s

/-- `ADDB A,#N8` (R299). -/
def execAddbAImm (v : Byte) (s : State) : Host.Outcome State Fault Refusal :=
  aluAImmB .add v s

/-- `ADD A,**` (R297). -/
def execAddAW (p : WOp) (s : State) : Host.Outcome State Fault Refusal :=
  classW s (aluAW .add p s)

/-- `ADDB A,*` (R300). -/
def execAddbAB (p : BOp) (s : State) : Host.Outcome State Fault Refusal :=
  classB s (aluAB .add p s)

/-- `ADD **,fix` (R298). -/
def execAddWFix (p : WOp) (a : Byte) (s : State) : Host.Outcome State Fault Refusal :=
  aluMW .add p (.mem (.fix a)) s

/-- `ADDB *,fix` (R301). -/
def execAddbBFix (p : BOp) (a : Byte) (s : State) : Host.Outcome State Fault Refusal :=
  aluMB .add p (.mem (.fix a)) s

/-- `ADD **,off` (R298). -/
def execAddWOff (p : WOp) (a : Byte) (s : State) : Host.Outcome State Fault Refusal :=
  aluMW .add p (.mem (.off a)) s

/-- `ADDB *,off` (R301). -/
def execAddbBOff (p : BOp) (a : Byte) (s : State) : Host.Outcome State Fault Refusal :=
  aluMB .add p (.mem (.off a)) s

/-- `ADD **,sfr` (R298). -/
def execAddWSfr (p : WOp) (a : Byte) (s : State) : Host.Outcome State Fault Refusal :=
  aluMW .add p (.mem (.sfr a)) s

/-- `ADDB *,sfr` (R301). -/
def execAddbBSfr (p : BOp) (a : Byte) (s : State) : Host.Outcome State Fault Refusal :=
  aluMB .add p (.mem (.sfr a)) s

/-- `ADD **,#N16` (R298). -/
def execAddWImm (p : WOp) (v : Word) (s : State) : Host.Outcome State Fault Refusal :=
  aluMW .add p (.imm v) s

/-- `ADDB *,#N8` (R301). -/
def execAddbBImm (p : BOp) (v : Byte) (s : State) : Host.Outcome State Fault Refusal :=
  aluMB .add p (.imm v) s

/-- `ADD **,A` (R298). -/
def execAddWA (p : WOp) (s : State) : Host.Outcome State Fault Refusal :=
  aluMW .add p .acc s

/-- `ADDB *,A` (R301). -/
def execAddbBA (p : BOp) (s : State) : Host.Outcome State Fault Refusal :=
  aluMB .add p .acc s

/-- `ADC A,#N16` (R302). -/
def execAdcAImm (v : Word) (s : State) : Host.Outcome State Fault Refusal :=
  aluAImmW .adc v s

/-- `ADCB A,#N8` (R305). -/
def execAdcbAImm (v : Byte) (s : State) : Host.Outcome State Fault Refusal :=
  aluAImmB .adc v s

/-- `ADC A,**` (R303). -/
def execAdcAW (p : WOp) (s : State) : Host.Outcome State Fault Refusal :=
  classW s (aluAW .adc p s)

/-- `ADCB A,*` (R306). -/
def execAdcbAB (p : BOp) (s : State) : Host.Outcome State Fault Refusal :=
  classB s (aluAB .adc p s)

/-- `ADC **,fix` (R304). -/
def execAdcWFix (p : WOp) (a : Byte) (s : State) : Host.Outcome State Fault Refusal :=
  aluMW .adc p (.mem (.fix a)) s

/-- `ADCB *,fix` (R307). -/
def execAdcbBFix (p : BOp) (a : Byte) (s : State) : Host.Outcome State Fault Refusal :=
  aluMB .adc p (.mem (.fix a)) s

/-- `ADC **,off` (R304). -/
def execAdcWOff (p : WOp) (a : Byte) (s : State) : Host.Outcome State Fault Refusal :=
  aluMW .adc p (.mem (.off a)) s

/-- `ADCB *,off` (R307). -/
def execAdcbBOff (p : BOp) (a : Byte) (s : State) : Host.Outcome State Fault Refusal :=
  aluMB .adc p (.mem (.off a)) s

/-- `ADC **,sfr` (R304). -/
def execAdcWSfr (p : WOp) (a : Byte) (s : State) : Host.Outcome State Fault Refusal :=
  aluMW .adc p (.mem (.sfr a)) s

/-- `ADCB *,sfr` (R307). -/
def execAdcbBSfr (p : BOp) (a : Byte) (s : State) : Host.Outcome State Fault Refusal :=
  aluMB .adc p (.mem (.sfr a)) s

/-- `ADC **,#N16` (R304). -/
def execAdcWImm (p : WOp) (v : Word) (s : State) : Host.Outcome State Fault Refusal :=
  aluMW .adc p (.imm v) s

/-- `ADCB *,#N8` (R307). -/
def execAdcbBImm (p : BOp) (v : Byte) (s : State) : Host.Outcome State Fault Refusal :=
  aluMB .adc p (.imm v) s

/-- `ADC **,A` (R304). -/
def execAdcWA (p : WOp) (s : State) : Host.Outcome State Fault Refusal :=
  aluMW .adc p .acc s

/-- `ADCB *,A` (R307). -/
def execAdcbBA (p : BOp) (s : State) : Host.Outcome State Fault Refusal :=
  aluMB .adc p .acc s

/-- `SUB A,ERn` (R308). -/
def execSubAEr (n : ER) (s : State) : Host.Outcome State Fault Refusal :=
  aluAW .sub (.er n) s

/-- `SUB A,PRn` (R308). -/
def execSubAPr (n : PR) (s : State) : Host.Outcome State Fault Refusal :=
  aluAW .sub (.pr n) s

/-- `SUBB A,Rn` (R311). -/
def execSubbAR (n : R8) (s : State) : Host.Outcome State Fault Refusal :=
  aluAB .sub (.r n) s

/-- `SUB A,fix` (R308). -/
def execSubAFix (a : Byte) (s : State) : Host.Outcome State Fault Refusal :=
  aluAW .sub (.mem (.fix a)) s

/-- `SUBB A,fix` (R311). -/
def execSubbAFix (a : Byte) (s : State) : Host.Outcome State Fault Refusal :=
  aluAB .sub (.mem (.fix a)) s

/-- `SUB A,off` (R308). -/
def execSubAOff (a : Byte) (s : State) : Host.Outcome State Fault Refusal :=
  aluAW .sub (.mem (.off a)) s

/-- `SUBB A,off` (R311). -/
def execSubbAOff (a : Byte) (s : State) : Host.Outcome State Fault Refusal :=
  aluAB .sub (.mem (.off a)) s

/-- `SUB A,#N16` (R308). -/
def execSubAImm (v : Word) (s : State) : Host.Outcome State Fault Refusal :=
  aluAImmW .sub v s

/-- `SUBB A,#N8` (R311). -/
def execSubbAImm (v : Byte) (s : State) : Host.Outcome State Fault Refusal :=
  aluAImmB .sub v s

/-- `SUB A,**` (R309). -/
def execSubAW (p : WOp) (s : State) : Host.Outcome State Fault Refusal :=
  classW s (aluAW .sub p s)

/-- `SUBB A,*` (R312). -/
def execSubbAB (p : BOp) (s : State) : Host.Outcome State Fault Refusal :=
  classB s (aluAB .sub p s)

/-- `SUB **,fix` (R310). -/
def execSubWFix (p : WOp) (a : Byte) (s : State) : Host.Outcome State Fault Refusal :=
  aluMW .sub p (.mem (.fix a)) s

/-- `SUBB *,fix` (R313). -/
def execSubbBFix (p : BOp) (a : Byte) (s : State) : Host.Outcome State Fault Refusal :=
  aluMB .sub p (.mem (.fix a)) s

/-- `SUB **,off` (R310). -/
def execSubWOff (p : WOp) (a : Byte) (s : State) : Host.Outcome State Fault Refusal :=
  aluMW .sub p (.mem (.off a)) s

/-- `SUBB *,off` (R313). -/
def execSubbBOff (p : BOp) (a : Byte) (s : State) : Host.Outcome State Fault Refusal :=
  aluMB .sub p (.mem (.off a)) s

/-- `SUB **,sfr` (R310). -/
def execSubWSfr (p : WOp) (a : Byte) (s : State) : Host.Outcome State Fault Refusal :=
  aluMW .sub p (.mem (.sfr a)) s

/-- `SUBB *,sfr` (R313). -/
def execSubbBSfr (p : BOp) (a : Byte) (s : State) : Host.Outcome State Fault Refusal :=
  aluMB .sub p (.mem (.sfr a)) s

/-- `SUB **,#N16` (R310). -/
def execSubWImm (p : WOp) (v : Word) (s : State) : Host.Outcome State Fault Refusal :=
  aluMW .sub p (.imm v) s

/-- `SUBB *,#N8` (R313). -/
def execSubbBImm (p : BOp) (v : Byte) (s : State) : Host.Outcome State Fault Refusal :=
  aluMB .sub p (.imm v) s

/-- `SUB **,A` (R310). -/
def execSubWA (p : WOp) (s : State) : Host.Outcome State Fault Refusal :=
  aluMW .sub p .acc s

/-- `SUBB *,A` (R313). -/
def execSubbBA (p : BOp) (s : State) : Host.Outcome State Fault Refusal :=
  aluMB .sub p .acc s

/-- `SBC A,#N16` (R314). -/
def execSbcAImm (v : Word) (s : State) : Host.Outcome State Fault Refusal :=
  aluAImmW .sbc v s

/-- `SBCB A,#N8` (R317). -/
def execSbcbAImm (v : Byte) (s : State) : Host.Outcome State Fault Refusal :=
  aluAImmB .sbc v s

/-- `SBC A,**` (R315). -/
def execSbcAW (p : WOp) (s : State) : Host.Outcome State Fault Refusal :=
  classW s (aluAW .sbc p s)

/-- `SBCB A,*` (R318). -/
def execSbcbAB (p : BOp) (s : State) : Host.Outcome State Fault Refusal :=
  classB s (aluAB .sbc p s)

/-- `SBC **,fix` (R316). -/
def execSbcWFix (p : WOp) (a : Byte) (s : State) : Host.Outcome State Fault Refusal :=
  aluMW .sbc p (.mem (.fix a)) s

/-- `SBCB *,fix` (R319). -/
def execSbcbBFix (p : BOp) (a : Byte) (s : State) : Host.Outcome State Fault Refusal :=
  aluMB .sbc p (.mem (.fix a)) s

/-- `SBC **,off` (R316). -/
def execSbcWOff (p : WOp) (a : Byte) (s : State) : Host.Outcome State Fault Refusal :=
  aluMW .sbc p (.mem (.off a)) s

/-- `SBCB *,off` (R319). -/
def execSbcbBOff (p : BOp) (a : Byte) (s : State) : Host.Outcome State Fault Refusal :=
  aluMB .sbc p (.mem (.off a)) s

/-- `SBC **,sfr` (R316). -/
def execSbcWSfr (p : WOp) (a : Byte) (s : State) : Host.Outcome State Fault Refusal :=
  aluMW .sbc p (.mem (.sfr a)) s

/-- `SBCB *,sfr` (R319). -/
def execSbcbBSfr (p : BOp) (a : Byte) (s : State) : Host.Outcome State Fault Refusal :=
  aluMB .sbc p (.mem (.sfr a)) s

/-- `SBC **,#N16` (R316). -/
def execSbcWImm (p : WOp) (v : Word) (s : State) : Host.Outcome State Fault Refusal :=
  aluMW .sbc p (.imm v) s

/-- `SBCB *,#N8` (R319). -/
def execSbcbBImm (p : BOp) (v : Byte) (s : State) : Host.Outcome State Fault Refusal :=
  aluMB .sbc p (.imm v) s

/-- `SBC **,A` (R316). -/
def execSbcWA (p : WOp) (s : State) : Host.Outcome State Fault Refusal :=
  aluMW .sbc p .acc s

/-- `SBCB *,A` (R319). -/
def execSbcbBA (p : BOp) (s : State) : Host.Outcome State Fault Refusal :=
  aluMB .sbc p .acc s

/-- `CMP A,ERn` (R320). -/
def execCmpAEr (n : ER) (s : State) : Host.Outcome State Fault Refusal :=
  aluAW .cmp (.er n) s

/-- `CMP A,PRn` (R320). -/
def execCmpAPr (n : PR) (s : State) : Host.Outcome State Fault Refusal :=
  aluAW .cmp (.pr n) s

/-- `CMPB A,Rn` (R324). -/
def execCmpbAR (n : R8) (s : State) : Host.Outcome State Fault Refusal :=
  aluAB .cmp (.r n) s

/-- `CMP A,fix` (R320). -/
def execCmpAFix (a : Byte) (s : State) : Host.Outcome State Fault Refusal :=
  aluAW .cmp (.mem (.fix a)) s

/-- `CMPB A,fix` (R324). -/
def execCmpbAFix (a : Byte) (s : State) : Host.Outcome State Fault Refusal :=
  aluAB .cmp (.mem (.fix a)) s

/-- `CMP A,off` (R320). -/
def execCmpAOff (a : Byte) (s : State) : Host.Outcome State Fault Refusal :=
  aluAW .cmp (.mem (.off a)) s

/-- `CMPB A,off` (R324). -/
def execCmpbAOff (a : Byte) (s : State) : Host.Outcome State Fault Refusal :=
  aluAB .cmp (.mem (.off a)) s

/-- `CMP A,#N16` (R320). -/
def execCmpAImm (v : Word) (s : State) : Host.Outcome State Fault Refusal :=
  aluAImmW .cmp v s

/-- `CMPB A,#N8` (R324). -/
def execCmpbAImm (v : Byte) (s : State) : Host.Outcome State Fault Refusal :=
  aluAImmB .cmp v s

/-- `CMP A,**` (R321). -/
def execCmpAW (p : WOp) (s : State) : Host.Outcome State Fault Refusal :=
  classW s (aluAW .cmp p s)

/-- `CMPB A,*` (R325). -/
def execCmpbAB (p : BOp) (s : State) : Host.Outcome State Fault Refusal :=
  classB s (aluAB .cmp p s)

/-- `CMP **,fix` (R322). -/
def execCmpWFix (p : WOp) (a : Byte) (s : State) : Host.Outcome State Fault Refusal :=
  aluMW .cmp p (.mem (.fix a)) s

/-- `CMPB *,fix` (R326). -/
def execCmpbBFix (p : BOp) (a : Byte) (s : State) : Host.Outcome State Fault Refusal :=
  aluMB .cmp p (.mem (.fix a)) s

/-- `CMP **,off` (R322). -/
def execCmpWOff (p : WOp) (a : Byte) (s : State) : Host.Outcome State Fault Refusal :=
  aluMW .cmp p (.mem (.off a)) s

/-- `CMPB *,off` (R326). -/
def execCmpbBOff (p : BOp) (a : Byte) (s : State) : Host.Outcome State Fault Refusal :=
  aluMB .cmp p (.mem (.off a)) s

/-- `CMP **,sfr` (R322). -/
def execCmpWSfr (p : WOp) (a : Byte) (s : State) : Host.Outcome State Fault Refusal :=
  aluMW .cmp p (.mem (.sfr a)) s

/-- `CMPB *,sfr` (R326). -/
def execCmpbBSfr (p : BOp) (a : Byte) (s : State) : Host.Outcome State Fault Refusal :=
  aluMB .cmp p (.mem (.sfr a)) s

/-- `CMP **,#N16` (R322). -/
def execCmpWImm (p : WOp) (v : Word) (s : State) : Host.Outcome State Fault Refusal :=
  aluMW .cmp p (.imm v) s

/-- `CMPB *,#N8` (R326). -/
def execCmpbBImm (p : BOp) (v : Byte) (s : State) : Host.Outcome State Fault Refusal :=
  aluMB .cmp p (.imm v) s

/-- `CMP **,A` (R322). -/
def execCmpWA (p : WOp) (s : State) : Host.Outcome State Fault Refusal :=
  aluMW .cmp p .acc s

/-- `CMPB *,A` (R326). -/
def execCmpbBA (p : BOp) (s : State) : Host.Outcome State Fault Refusal :=
  aluMB .cmp p .acc s

/-- `CMP fix,#N16` (R323). -/
def execCmpFixImm (a : Byte) (v : Word) (s : State) : Host.Outcome State Fault Refusal :=
  aluMW .cmp (.mem (.fix a)) (.imm v) s

/-- `CMP off,#N16` (R323). -/
def execCmpOffImm (a : Byte) (v : Word) (s : State) : Host.Outcome State Fault Refusal :=
  aluMW .cmp (.mem (.off a)) (.imm v) s

/-- `CMPB fix,#N8` (R327). -/
def execCmpbFixImm (a : Byte) (v : Byte) (s : State) : Host.Outcome State Fault Refusal :=
  aluMB .cmp (.mem (.fix a)) (.imm v) s

/-- `CMPB off,#N8` (R327). -/
def execCmpbOffImm (a : Byte) (v : Byte) (s : State) : Host.Outcome State Fault Refusal :=
  aluMB .cmp (.mem (.off a)) (.imm v) s

/-- `NEG A` (R328). -/
def execNegA (s : State) : Host.Outcome State Fault Refusal :=
  retire s (.ok (let o := subFlags 0 s.a false; (s.setA o.res).setPsw (Psw.putArith s.psw o)))

/-- `NEGB A` (R329). -/
def execNegbA (s : State) : Host.Outcome State Fault Refusal :=
  retire s (.ok (let o := subFlags 0 (loByte s.a) false; (s.setA (setLo s.a o.res)).setPsw (Psw.putArith s.psw o)))

/-- `MUL **` (R330). -/
def execMulW (p : WOp) (s : State) : Host.Outcome State Fault Refusal :=
  retire s (do
    let (l, t) ← locW p s
    let v ← rdW l t
    t.mulWord v)

/-- `MULB *` (R331). -/
def execMulbB (p : BOp) (s : State) : Host.Outcome State Fault Refusal :=
  retire s (do
    let (l, t) ← locB p s
    let v ← rdB l t
    return t.mulByte v)

/-- `SQR A` (R332). -/
def execSqrA (s : State) : Host.Outcome State Fault Refusal :=
  retire s (s.mulWord s.a)

/-- `SQRB A` (R333). -/
def execSqrbA (s : State) : Host.Outcome State Fault Refusal :=
  retire s (.ok (s.mulByte (loByte s.a)))

/-- `DIV **` (R334). -/
def execDivW (p : WOp) (s : State) : Host.Outcome State Fault Refusal :=
  retire s (do
    let (l, t) ← locW p s
    let v ← rdW l t
    t.divWord v)

/-- `DIVB *` (R335). -/
def execDivbB (p : BOp) (s : State) : Host.Outcome State Fault Refusal :=
  retire s (do
    let (l, t) ← locB p s
    let v ← rdB l t
    t.divByte v)

/-- `DIVQ **` (R336). -/
def execDivqW (p : WOp) (s : State) : Host.Outcome State Fault Refusal :=
  retire s (do
    let (l, t) ← locW p s
    let v ← rdW l t
    t.divQuick v)

end Sys2Proof.Machine
end

