-- ==== Sys2Proof/Machine/BitOps.lean ====
section
/-! DEFINITION. Bit manipulation (47_bit.md): SB, RB, MB, BAND, BANDN, BOR, BORN, BXOR, SBR, RBR, TBR, MBR. -/

namespace Sys2Proof.Machine

/-! ## Shared operations -/

/-- Read the byte once, set Z to the complement of the old bit, write the byte back with the bit replaced. Z is written
before the byte, so that a byte of PSW overrides it (R380, R381, D11). -/
def putBitZ (l : Loc) (bit : Nat) (v : Bool) (s : State) : Res State := do
  let b ← rdB l s
  wrB l (putBit b bit v) (s.setPsw (Psw.setZ s.psw (!b.getLsbD bit)))

/-- Write the byte back with one bit replaced, no flag (R386, R397). -/
def putBitOnly (l : Loc) (bit : Nat) (v : Bool) (s : State) : Res State := do
  let b ← rdB l s
  wrB l (putBit b bit v) s

/-- The operations whose result goes to C (R385, R387 to R391). -/
inductive CarryOp where
  | move | and | andn | or | orn | xor
deriving DecidableEq, Repr

/-- The new carry from the old carry and the bit. -/
def carryRun (op : CarryOp) (c b : Bool) : Bool :=
  match op with
  | .move => b
  | .and => c && b
  | .andn => c && !b
  | .or => c || b
  | .orn => c || !b
  | .xor => c ^^ b

/-- `C <- op(C, RdBit(loc, bit))`. -/
def bitToCarry (op : CarryOp) (l : Loc) (bit : Nat) (s : State) : Res State := do
  let b ← rdB l s
  return s.setPsw (Psw.setC s.psw (carryRun op (Psw.c s.psw) (b.getLsbD bit)))

/-- A position-direct bit instruction: locate the byte, then act on bit `bit` of it. -/
def atBit (p : BOp) (f : Loc → State → Res State) (s : State) : Host.Outcome State Fault Refusal :=
  retire s (do
    let (l, t) ← locB p s
    f l t)

/-- A register-indirect bit instruction: `BlockBit(P, AL)` is bit AL mod 8 of the byte AL div 8 above P (R392, log 30). -/
def atBlockBit (p : BOp) (f : Loc → Nat → State → Res State) (s : State) : Host.Outcome State Fault Refusal :=
  retire s (do
    let (l, t) ← locB p s
    let k := (loByte t.a).toNat
    f (upLoc l (k / 8)) (k % 8) t)

/-! ## The instructions -/

/-- `RB *.bit` (R383). -/
def execRbBit (p : BOp) (bit : Fin 8) (s : State) : Host.Outcome State Fault Refusal :=
  atBit p (fun l t => putBitZ l bit.val false t) s

/-- `SB *.bit` (R381). -/
def execSbBit (p : BOp) (bit : Fin 8) (s : State) : Host.Outcome State Fault Refusal :=
  atBit p (fun l t => putBitZ l bit.val true t) s

/-- `MB C,*.bit` (R385). -/
def execMbCBit (p : BOp) (bit : Fin 8) (s : State) : Host.Outcome State Fault Refusal :=
  atBit p (fun l t => bitToCarry .move l bit.val t) s

/-- `MB *.bit,C` (R386). -/
def execMbBitC (p : BOp) (bit : Fin 8) (s : State) : Host.Outcome State Fault Refusal :=
  atBit p (fun l t => putBitOnly l bit.val (Psw.c t.psw) t) s

/-- `BAND C,*.bit` (R387). -/
def execBandCBit (p : BOp) (bit : Fin 8) (s : State) : Host.Outcome State Fault Refusal :=
  atBit p (fun l t => bitToCarry .and l bit.val t) s

/-- `BANDN C,*.bit` (R388). -/
def execBandnCBit (p : BOp) (bit : Fin 8) (s : State) : Host.Outcome State Fault Refusal :=
  atBit p (fun l t => bitToCarry .andn l bit.val t) s

/-- `BOR C,*.bit` (R389). -/
def execBorCBit (p : BOp) (bit : Fin 8) (s : State) : Host.Outcome State Fault Refusal :=
  atBit p (fun l t => bitToCarry .or l bit.val t) s

/-- `BORN C,*.bit` (R390). -/
def execBornCBit (p : BOp) (bit : Fin 8) (s : State) : Host.Outcome State Fault Refusal :=
  atBit p (fun l t => bitToCarry .orn l bit.val t) s

/-- `BXOR C,*.bit` (R391). -/
def execBxorCBit (p : BOp) (bit : Fin 8) (s : State) : Host.Outcome State Fault Refusal :=
  atBit p (fun l t => bitToCarry .xor l bit.val t) s

/-- `SB sbafix.bit` (R382). -/
def execSbSbafix (bit : Fin 8) (k : BitVec 6) (s : State) : Host.Outcome State Fault Refusal :=
  retire s (putBitZ (sbafixLoc k) bit.val true s)

/-- `RB sbafix.bit` (R384). -/
def execRbSbafix (bit : Fin 8) (k : BitVec 6) (s : State) : Host.Outcome State Fault Refusal :=
  retire s (putBitZ (sbafixLoc k) bit.val false s)

/-- `SB sbaoff.bit` (R382). -/
def execSbSbaoff (bit : Fin 8) (k : BitVec 6) (s : State) : Host.Outcome State Fault Refusal :=
  retire s (putBitZ (sbaoffLoc s k) bit.val true s)

/-- `RB sbaoff.bit` (R384). -/
def execRbSbaoff (bit : Fin 8) (k : BitVec 6) (s : State) : Host.Outcome State Fault Refusal :=
  retire s (putBitZ (sbaoffLoc s k) bit.val false s)

/-- `SBR *` (R393). -/
def execSbrB (p : BOp) (s : State) : Host.Outcome State Fault Refusal :=
  atBlockBit p (fun l k t => putBitZ l k true t) s

/-- `RBR *` (R394). -/
def execRbrB (p : BOp) (s : State) : Host.Outcome State Fault Refusal :=
  atBlockBit p (fun l k t => putBitZ l k false t) s

/-- `TBR *` (R395). -/
def execTbrB (p : BOp) (s : State) : Host.Outcome State Fault Refusal :=
  atBlockBit p (fun l k t => do
    let b ← rdB l t
    return t.setPsw (Psw.setZ t.psw (!b.getLsbD k))) s

/-- `MBR C,*` (R396). -/
def execMbrCB (p : BOp) (s : State) : Host.Outcome State Fault Refusal :=
  atBlockBit p (fun l k t => bitToCarry .move l k t) s

/-- `MBR *,C` (R397). -/
def execMbrBC (p : BOp) (s : State) : Host.Outcome State Fault Refusal :=
  atBlockBit p (fun l k t => putBitOnly l k (Psw.c t.psw) t) s

end Sys2Proof.Machine
end

