-- ==== Sys2Proof/Machine/IncDec.lean ====
section
/-! DEFINITION. Increment and decrement (43_inc_dec.md). -/

namespace Sys2Proof.Machine

/-! ## Shared operations -/

/-- `WrW(P, IncFlags(16, RdW(P)))`, or DecFlags (R280): flags first, then the write (D11). -/
def incDecW (dec : Bool) (p : WOp) (s : State) : Host.Outcome State Fault Refusal :=
  retire s (do
    let (l, t) ← locW p s
    let x ← rdW l t
    let r := incDecRun dec t.psw x
    wrW l r.1 (t.setPsw r.2))

/-- `WrB(P, IncFlags(8, RdB(P)))`, or DecFlags (R280). -/
def incDecB (dec : Bool) (p : BOp) (s : State) : Host.Outcome State Fault Refusal :=
  retire s (do
    let (l, t) ← locB p s
    let x ← rdB l t
    let r := incDecRun dec t.psw x
    wrB l r.1 (t.setPsw r.2))

/-! ## The instructions -/

/-- `INC A` (R281). -/
def execIncA (s : State) : Host.Outcome State Fault Refusal :=
  incDecW false .acc s

/-- `INCB A` (R284). -/
def execIncbA (s : State) : Host.Outcome State Fault Refusal :=
  incDecB false .acc s

/-- `INC PRn` (R282). -/
def execIncPr (n : PR) (s : State) : Host.Outcome State Fault Refusal :=
  incDecW false (.pr n) s

/-- `INCB Rn (n 0-3)` (R285). -/
def execIncbR (n : Fin 4) (s : State) : Host.Outcome State Fault Refusal :=
  incDecB false (.r (R8.low n)) s

/-- `INC **` (R283). -/
def execIncW (p : WOp) (s : State) : Host.Outcome State Fault Refusal :=
  incDecW false p s

/-- `INCB *` (R286). -/
def execIncbB (p : BOp) (s : State) : Host.Outcome State Fault Refusal :=
  incDecB false p s

/-- `DEC A` (R287). -/
def execDecA (s : State) : Host.Outcome State Fault Refusal :=
  incDecW true .acc s

/-- `DECB A` (R290). -/
def execDecbA (s : State) : Host.Outcome State Fault Refusal :=
  incDecB true .acc s

/-- `DEC PRn` (R288). -/
def execDecPr (n : PR) (s : State) : Host.Outcome State Fault Refusal :=
  incDecW true (.pr n) s

/-- `DECB Rn (n 0-3)` (R291). -/
def execDecbR (n : Fin 4) (s : State) : Host.Outcome State Fault Refusal :=
  incDecB true (.r (R8.low n)) s

/-- `DEC **` (R289). -/
def execDecW (p : WOp) (s : State) : Host.Outcome State Fault Refusal :=
  incDecW true p s

/-- `DECB *` (R292). -/
def execDecbB (p : BOp) (s : State) : Host.Outcome State Fault Refusal :=
  incDecB true p s

end Sys2Proof.Machine
end

