-- ==== Sys2Proof/Machine/Jump.lean ====
section
/-! DEFINITION. Jumps, calls and returns (48_jump_call.md). PC already holds NextPC (R410): the step moves it past the
instruction before the meaning runs. -/

namespace Sys2Proof.Machine

/-! ## Shared operations -/

/-- `if cond then PC <- Rel8(d)` (R410). -/
def State.jumpIf (s : State) (cond : Bool) (d : Byte) : State := if cond then s.setPc (s.pc + sext8 d) else s

/-- Jump when bit `bit` of a location is `want`; nothing is written (R411, R413). -/
def jumpOnBit (want : Bool) (l : Loc) (bit : Nat) (d : Byte) (s : State) : Res State := do
  let b ← rdB l s
  return s.jumpIf (b.getLsbD bit == want) d

/-- Jump when bit `bit` of a location is `want`, and then flip it; the byte is written only when taken (R415, R416). -/
def jumpOnBitFlip (want : Bool) (l : Loc) (bit : Nat) (d : Byte) (s : State) : Res State := do
  let b ← rdB l s
  if b.getLsbD bit == want then
    let t ← wrB l (putBit b bit (!want)) s
    return t.jumpIf true d
  else return s

/-- `if RdW(P) = 0 then PC <- Rel8(d)`, or the reverse (R417 to R420). -/
def testJumpW (zero : Bool) (p : WOp) (d : Byte) (s : State) : Host.Outcome State Fault Refusal :=
  retire s (do
    let (l, t) ← locW p s
    let v ← rdW l t
    return t.jumpIf ((v == 0) == zero) d)

/-- `if RdB(P) = 0 then PC <- Rel8(d)`, or the reverse (R421 to R424). -/
def testJumpB (zero : Bool) (p : BOp) (d : Byte) (s : State) : Host.Outcome State Fault Refusal :=
  retire s (do
    let (l, t) ← locB p s
    let v ← rdB l t
    return t.jumpIf ((v == 0) == zero) d)

/-- `Jcond radr` (R425). -/
def condJump (cc : Cond) (d : Byte) (s : State) : Host.Outcome State Fault Refusal :=
  retire s (.ok (s.jumpIf (cc.holds s.psw) d))

/-- `v <- RdB(loc) - 1; WrB(loc, v); if v is not 0 then PC <- target` (R440 to R443); no flag. -/
def decJump (l : Loc) (target : State → Word) (s : State) : Res State := do
  let b ← rdB l s
  let t ← wrB l (b - 1) s
  return if b - 1 = 0 then t else t.setPc (target t)

/-- `Rel8(d)` as the target of a loop (R153). -/
def rel8 (d : Byte) (s : State) : Word := s.pc + sext8 d

/-- The backward target of the short DJNZ: NextPC - 128 + rdiff7 (R153, R440, log 31). -/
def rel7 (d : BitVec 7) (s : State) : Word := s.pc - 128 + d.setWidth 16

/-- `Push16(PC); PC <- t` (R447). -/
def callNear (t : Word) (s : State) : Res State := do
  let s ← push16 s s.pc
  return s.setPc t

/-- `Push16(PC); Push16(zext_16(CSR))` (R452, R454). -/
def pushFar (s : State) : Res State := do
  let s ← push16 s s.pc
  push16 s (zext s.csr)

/-- A far instruction: the op-code trap under small and compact, else its own effect (R454 to R456, R504). -/
def farOnly (s : State) (k : Host.Outcome State Fault Refusal) : Host.Outcome State Fault Refusal :=
  if s.farCode then k else retireSync (opcodeTrap s)

/-- The vector address of `VCAL` number v (R151). -/
def vcalVector (v : Fin 16) : Word := BitVec.ofNat 16 (0x4A + 2 * v.val)

/-- The target of `ACAL` (R150). -/
def acalTarget (h : Fin 8) (lo : Byte) : Word := BitVec.ofNat 16 (0x1000 + 0x100 * h.val + lo.toNat)

/-! ## The instructions -/

/-- `JBS *.bit,radr` (R411). -/
def execJbsBit (p : BOp) (bit : Fin 8) (d : Byte) (s : State) : Host.Outcome State Fault Refusal :=
  atBit p (fun l t => jumpOnBit true l bit.val d t) s

/-- `JBS sbafix.bit,radr` (R412). -/
def execJbsSbafix (bit : Fin 8) (k : BitVec 6) (d : Byte) (s : State) : Host.Outcome State Fault Refusal :=
  retire s (jumpOnBit true (sbafixLoc k) bit.val d s)

/-- `JBS sbaoff.bit,radr` (R412). -/
def execJbsSbaoff (bit : Fin 8) (k : BitVec 6) (d : Byte) (s : State) : Host.Outcome State Fault Refusal :=
  retire s (jumpOnBit true (sbaoffLoc s k) bit.val d s)

/-- `JBR *.bit,radr` (R413). -/
def execJbrBit (p : BOp) (bit : Fin 8) (d : Byte) (s : State) : Host.Outcome State Fault Refusal :=
  atBit p (fun l t => jumpOnBit false l bit.val d t) s

/-- `JBR sbafix.bit,radr` (R414). -/
def execJbrSbafix (bit : Fin 8) (k : BitVec 6) (d : Byte) (s : State) : Host.Outcome State Fault Refusal :=
  retire s (jumpOnBit false (sbafixLoc k) bit.val d s)

/-- `JBR sbaoff.bit,radr` (R414). -/
def execJbrSbaoff (bit : Fin 8) (k : BitVec 6) (d : Byte) (s : State) : Host.Outcome State Fault Refusal :=
  retire s (jumpOnBit false (sbaoffLoc s k) bit.val d s)

/-- `JBSR *.bit,radr` (R415). -/
def execJbsrBit (p : BOp) (bit : Fin 8) (d : Byte) (s : State) : Host.Outcome State Fault Refusal :=
  atBit p (fun l t => jumpOnBitFlip true l bit.val d t) s

/-- `JBRS *.bit,radr` (R416). -/
def execJbrsBit (p : BOp) (bit : Fin 8) (d : Byte) (s : State) : Host.Outcome State Fault Refusal :=
  atBit p (fun l t => jumpOnBitFlip false l bit.val d t) s

/-- `TJZ A,radr` (R417). -/
def execTjzA (d : Byte) (s : State) : Host.Outcome State Fault Refusal :=
  testJumpW true .acc d s

/-- `TJZ **,radr` (R418). -/
def execTjzW (p : WOp) (d : Byte) (s : State) : Host.Outcome State Fault Refusal :=
  testJumpW true p d s

/-- `TJNZ A,radr` (R419). -/
def execTjnzA (d : Byte) (s : State) : Host.Outcome State Fault Refusal :=
  testJumpW false .acc d s

/-- `TJNZ **,radr` (R420). -/
def execTjnzW (p : WOp) (d : Byte) (s : State) : Host.Outcome State Fault Refusal :=
  testJumpW false p d s

/-- `TJZB A,radr` (R421). -/
def execTjzbA (d : Byte) (s : State) : Host.Outcome State Fault Refusal :=
  testJumpB true .acc d s

/-- `TJZB *,radr` (R422). -/
def execTjzbB (p : BOp) (d : Byte) (s : State) : Host.Outcome State Fault Refusal :=
  testJumpB true p d s

/-- `TJNZB A,radr` (R423). -/
def execTjnzbA (d : Byte) (s : State) : Host.Outcome State Fault Refusal :=
  testJumpB false .acc d s

/-- `TJNZB *,radr` (R424). -/
def execTjnzbB (p : BOp) (d : Byte) (s : State) : Host.Outcome State Fault Refusal :=
  testJumpB false p d s

/-- `JGT radr` (R426). -/
def execJgt (d : Byte) (s : State) : Host.Outcome State Fault Refusal :=
  condJump .gt d s

/-- `JGE (= JNC) radr` (R427). -/
def execJge (d : Byte) (s : State) : Host.Outcome State Fault Refusal :=
  condJump .ge d s

/-- `JLT (= JCY) radr` (R428). -/
def execJlt (d : Byte) (s : State) : Host.Outcome State Fault Refusal :=
  condJump .lt d s

/-- `JLE radr` (R429). -/
def execJle (d : Byte) (s : State) : Host.Outcome State Fault Refusal :=
  condJump .le d s

/-- `JEQ (= JZ) radr` (R430). -/
def execJeq (d : Byte) (s : State) : Host.Outcome State Fault Refusal :=
  condJump .eq d s

/-- `JNE (= JNZ) radr` (R431). -/
def execJne (d : Byte) (s : State) : Host.Outcome State Fault Refusal :=
  condJump .ne d s

/-- `JPS radr` (R436). -/
def execJps (d : Byte) (s : State) : Host.Outcome State Fault Refusal :=
  condJump .ps d s

/-- `JNS radr` (R437). -/
def execJns (d : Byte) (s : State) : Host.Outcome State Fault Refusal :=
  condJump .ns d s

/-- `JGTS radr` (R432). -/
def execJgts (d : Byte) (s : State) : Host.Outcome State Fault Refusal :=
  condJump .gts d s

/-- `JGES radr` (R433). -/
def execJges (d : Byte) (s : State) : Host.Outcome State Fault Refusal :=
  condJump .ges d s

/-- `JLTS radr` (R434). -/
def execJlts (d : Byte) (s : State) : Host.Outcome State Fault Refusal :=
  condJump .lts d s

/-- `JLES radr` (R435). -/
def execJles (d : Byte) (s : State) : Host.Outcome State Fault Refusal :=
  condJump .les d s

/-- `JOV radr` (R438). -/
def execJov (d : Byte) (s : State) : Host.Outcome State Fault Refusal :=
  retire s (jumpOnBit true (.psw true) 1 d s)

/-- `JNV radr` (R439). -/
def execJnv (d : Byte) (s : State) : Host.Outcome State Fault Refusal :=
  retire s (jumpOnBit false (.psw true) 1 d s)

/-- `DJNZ R4,radr` (R440). -/
def execDjnzR4 (d : BitVec 7) (s : State) : Host.Outcome State Fault Refusal :=
  retire s (decJump (.phys (s.rAddr 4)) (rel7 d) s)

/-- `DJNZ R5,radr` (R440). -/
def execDjnzR5 (d : BitVec 7) (s : State) : Host.Outcome State Fault Refusal :=
  retire s (decJump (.phys (s.rAddr 5)) (rel7 d) s)

/-- `DJNZ PRnL,radr` (R441). -/
def execDjnzPrL (n : PR) (d : Byte) (s : State) : Host.Outcome State Fault Refusal :=
  retire s (decJump (.phys (s.prAddr n)) (rel8 d) s)

/-- `DJNZ *,radr` (R442). -/
def execDjnzB (p : BOp) (d : Byte) (s : State) : Host.Outcome State Fault Refusal :=
  retire s (do
    let (l, t) ← locB p s
    decJump l (rel8 d) t)

/-- `JRNZ DP,radr` (R443). -/
def execJrnzDp (d : Byte) (s : State) : Host.Outcome State Fault Refusal :=
  retire s (decJump (.phys (s.prAddr .dp)) (rel8 d) s)

/-- `SJ radr` (R444). -/
def execSj (d : Byte) (s : State) : Host.Outcome State Fault Refusal :=
  retire s (.ok (s.setPc (rel8 d s)))

/-- `J Cadr` (R445). -/
def execJCadr (w : Word) (s : State) : Host.Outcome State Fault Refusal :=
  retire s (.ok (s.setPc w))

/-- `J [**]` (R446). -/
def execJInd (p : WOp) (s : State) : Host.Outcome State Fault Refusal :=
  retire s (do
    let (l, t) ← locW p s
    let v ← rdW l t
    return t.setPc v)

/-- `CAL Cadr` (R447). -/
def execCalCadr (w : Word) (s : State) : Host.Outcome State Fault Refusal :=
  retire s (callNear w s)

/-- `CAL [**]` (R448). -/
def execCalInd (p : WOp) (s : State) : Host.Outcome State Fault Refusal :=
  retire s (do
    let (l, t) ← locW p s
    let v ← rdW l t
    callNear v t)

/-- `SCAL Cadr` (R449). -/
def execScalCadr (w : Word) (s : State) : Host.Outcome State Fault Refusal :=
  retire s (callNear w s)

/-- `ACAL Cadr11` (R450). -/
def execAcal (h : Fin 8) (lo : Byte) (s : State) : Host.Outcome State Fault Refusal :=
  retire s (callNear (acalTarget h lo) s)

/-- `VCAL Vadr` (R452). -/
def execVcal (v : Fin 16) (s : State) : Host.Outcome State Fault Refusal :=
  retire s (if s.farCode then do
      let t ← pushFar s
      let t := t.setCsr 0
      let w ← codeReadWord t 0 (vcalVector v)
      return t.setPc w
    else do
      let t ← push16 s s.pc
      let w ← codeReadWord t 0 (vcalVector v)
      return t.setPc w)

/-- `RT` (R453). -/
def execRt (s : State) : Host.Outcome State Fault Refusal :=
  retire s (do
    let (w, t) ← pop16 s
    return t.setPc w)

/-- `FCAL Fadr` (R454). -/
def execFcal (seg : Byte) (w : Word) (s : State) : Host.Outcome State Fault Refusal :=
  farOnly s (retire s (do
    let t ← pushFar s
    return (t.setCsr seg).setPc w))

/-- `FJ Fadr` (R455). -/
def execFj (seg : Byte) (w : Word) (s : State) : Host.Outcome State Fault Refusal :=
  farOnly s (retire s (.ok ((s.setCsr seg).setPc w)))

/-- `FRT` (R456). -/
def execFrt (s : State) : Host.Outcome State Fault Refusal :=
  farOnly s (retire s (do
    let (c, t) ← pop16 s
    let t := t.setCsr (loByte c)
    let (w, t) ← pop16 t
    return t.setPc w))

/-- `RTI` (R457). -/
def execRti (s : State) : Host.Outcome State Fault Refusal :=
  retireSync (returnFromInterrupt s)

end Sys2Proof.Machine
end

