-- ==== Sys2Proof/Machine/Logic.lean ====
section
/-! DEFINITION. Logical instructions (45_logical.md): AND, OR, XOR and their byte forms, over the shapes of R340. -/

namespace Sys2Proof.Machine

/-- `AND A,off` (R341). -/
def execAndAOff (a : Byte) (s : State) : Host.Outcome State Fault Refusal :=
  aluAW .and (.mem (.off a)) s

/-- `ANDB A,off` (R344). -/
def execAndbAOff (a : Byte) (s : State) : Host.Outcome State Fault Refusal :=
  aluAB .and (.mem (.off a)) s

/-- `AND A,#N16` (R341). -/
def execAndAImm (v : Word) (s : State) : Host.Outcome State Fault Refusal :=
  aluAImmW .and v s

/-- `ANDB A,#N8` (R344). -/
def execAndbAImm (v : Byte) (s : State) : Host.Outcome State Fault Refusal :=
  aluAImmB .and v s

/-- `AND A,**` (R342). -/
def execAndAW (p : WOp) (s : State) : Host.Outcome State Fault Refusal :=
  classW s (aluAW .and p s)

/-- `ANDB A,*` (R345). -/
def execAndbAB (p : BOp) (s : State) : Host.Outcome State Fault Refusal :=
  classB s (aluAB .and p s)

/-- `AND **,fix` (R343). -/
def execAndWFix (p : WOp) (a : Byte) (s : State) : Host.Outcome State Fault Refusal :=
  aluMW .and p (.mem (.fix a)) s

/-- `ANDB *,fix` (R346). -/
def execAndbBFix (p : BOp) (a : Byte) (s : State) : Host.Outcome State Fault Refusal :=
  aluMB .and p (.mem (.fix a)) s

/-- `AND **,off` (R343). -/
def execAndWOff (p : WOp) (a : Byte) (s : State) : Host.Outcome State Fault Refusal :=
  aluMW .and p (.mem (.off a)) s

/-- `ANDB *,off` (R346). -/
def execAndbBOff (p : BOp) (a : Byte) (s : State) : Host.Outcome State Fault Refusal :=
  aluMB .and p (.mem (.off a)) s

/-- `AND **,sfr` (R343). -/
def execAndWSfr (p : WOp) (a : Byte) (s : State) : Host.Outcome State Fault Refusal :=
  aluMW .and p (.mem (.sfr a)) s

/-- `ANDB *,sfr` (R346). -/
def execAndbBSfr (p : BOp) (a : Byte) (s : State) : Host.Outcome State Fault Refusal :=
  aluMB .and p (.mem (.sfr a)) s

/-- `AND **,#N16` (R343). -/
def execAndWImm (p : WOp) (v : Word) (s : State) : Host.Outcome State Fault Refusal :=
  aluMW .and p (.imm v) s

/-- `ANDB *,#N8` (R346). -/
def execAndbBImm (p : BOp) (v : Byte) (s : State) : Host.Outcome State Fault Refusal :=
  aluMB .and p (.imm v) s

/-- `AND **,A` (R343). -/
def execAndWA (p : WOp) (s : State) : Host.Outcome State Fault Refusal :=
  aluMW .and p .acc s

/-- `ANDB *,A` (R346). -/
def execAndbBA (p : BOp) (s : State) : Host.Outcome State Fault Refusal :=
  aluMB .and p .acc s

/-- `OR A,off` (R347). -/
def execOrAOff (a : Byte) (s : State) : Host.Outcome State Fault Refusal :=
  aluAW .or (.mem (.off a)) s

/-- `ORB A,off` (R350). -/
def execOrbAOff (a : Byte) (s : State) : Host.Outcome State Fault Refusal :=
  aluAB .or (.mem (.off a)) s

/-- `OR A,#N16` (R347). -/
def execOrAImm (v : Word) (s : State) : Host.Outcome State Fault Refusal :=
  aluAImmW .or v s

/-- `ORB A,#N8` (R350). -/
def execOrbAImm (v : Byte) (s : State) : Host.Outcome State Fault Refusal :=
  aluAImmB .or v s

/-- `OR A,**` (R348). -/
def execOrAW (p : WOp) (s : State) : Host.Outcome State Fault Refusal :=
  classW s (aluAW .or p s)

/-- `ORB A,*` (R351). -/
def execOrbAB (p : BOp) (s : State) : Host.Outcome State Fault Refusal :=
  classB s (aluAB .or p s)

/-- `OR **,fix` (R349). -/
def execOrWFix (p : WOp) (a : Byte) (s : State) : Host.Outcome State Fault Refusal :=
  aluMW .or p (.mem (.fix a)) s

/-- `ORB *,fix` (R352). -/
def execOrbBFix (p : BOp) (a : Byte) (s : State) : Host.Outcome State Fault Refusal :=
  aluMB .or p (.mem (.fix a)) s

/-- `OR **,off` (R349). -/
def execOrWOff (p : WOp) (a : Byte) (s : State) : Host.Outcome State Fault Refusal :=
  aluMW .or p (.mem (.off a)) s

/-- `ORB *,off` (R352). -/
def execOrbBOff (p : BOp) (a : Byte) (s : State) : Host.Outcome State Fault Refusal :=
  aluMB .or p (.mem (.off a)) s

/-- `OR **,sfr` (R349). -/
def execOrWSfr (p : WOp) (a : Byte) (s : State) : Host.Outcome State Fault Refusal :=
  aluMW .or p (.mem (.sfr a)) s

/-- `ORB *,sfr` (R352). -/
def execOrbBSfr (p : BOp) (a : Byte) (s : State) : Host.Outcome State Fault Refusal :=
  aluMB .or p (.mem (.sfr a)) s

/-- `OR **,#N16` (R349). -/
def execOrWImm (p : WOp) (v : Word) (s : State) : Host.Outcome State Fault Refusal :=
  aluMW .or p (.imm v) s

/-- `ORB *,#N8` (R352). -/
def execOrbBImm (p : BOp) (v : Byte) (s : State) : Host.Outcome State Fault Refusal :=
  aluMB .or p (.imm v) s

/-- `OR **,A` (R349). -/
def execOrWA (p : WOp) (s : State) : Host.Outcome State Fault Refusal :=
  aluMW .or p .acc s

/-- `ORB *,A` (R352). -/
def execOrbBA (p : BOp) (s : State) : Host.Outcome State Fault Refusal :=
  aluMB .or p .acc s

/-- `XOR A,off` (R353). -/
def execXorAOff (a : Byte) (s : State) : Host.Outcome State Fault Refusal :=
  aluAW .xor (.mem (.off a)) s

/-- `XORB A,off` (R356). -/
def execXorbAOff (a : Byte) (s : State) : Host.Outcome State Fault Refusal :=
  aluAB .xor (.mem (.off a)) s

/-- `XOR A,#N16` (R353). -/
def execXorAImm (v : Word) (s : State) : Host.Outcome State Fault Refusal :=
  aluAImmW .xor v s

/-- `XORB A,#N8` (R356). -/
def execXorbAImm (v : Byte) (s : State) : Host.Outcome State Fault Refusal :=
  aluAImmB .xor v s

/-- `XOR A,**` (R354). -/
def execXorAW (p : WOp) (s : State) : Host.Outcome State Fault Refusal :=
  classW s (aluAW .xor p s)

/-- `XORB A,*` (R357). -/
def execXorbAB (p : BOp) (s : State) : Host.Outcome State Fault Refusal :=
  classB s (aluAB .xor p s)

/-- `XOR **,fix` (R355). -/
def execXorWFix (p : WOp) (a : Byte) (s : State) : Host.Outcome State Fault Refusal :=
  aluMW .xor p (.mem (.fix a)) s

/-- `XORB *,fix` (R358). -/
def execXorbBFix (p : BOp) (a : Byte) (s : State) : Host.Outcome State Fault Refusal :=
  aluMB .xor p (.mem (.fix a)) s

/-- `XOR **,off` (R355). -/
def execXorWOff (p : WOp) (a : Byte) (s : State) : Host.Outcome State Fault Refusal :=
  aluMW .xor p (.mem (.off a)) s

/-- `XORB *,off` (R358). -/
def execXorbBOff (p : BOp) (a : Byte) (s : State) : Host.Outcome State Fault Refusal :=
  aluMB .xor p (.mem (.off a)) s

/-- `XOR **,sfr` (R355). -/
def execXorWSfr (p : WOp) (a : Byte) (s : State) : Host.Outcome State Fault Refusal :=
  aluMW .xor p (.mem (.sfr a)) s

/-- `XORB *,sfr` (R358). -/
def execXorbBSfr (p : BOp) (a : Byte) (s : State) : Host.Outcome State Fault Refusal :=
  aluMB .xor p (.mem (.sfr a)) s

/-- `XOR **,#N16` (R355). -/
def execXorWImm (p : WOp) (v : Word) (s : State) : Host.Outcome State Fault Refusal :=
  aluMW .xor p (.imm v) s

/-- `XORB *,#N8` (R358). -/
def execXorbBImm (p : BOp) (v : Byte) (s : State) : Host.Outcome State Fault Refusal :=
  aluMB .xor p (.imm v) s

/-- `XOR **,A` (R355). -/
def execXorWA (p : WOp) (s : State) : Host.Outcome State Fault Refusal :=
  aluMW .xor p .acc s

/-- `XORB *,A` (R358). -/
def execXorbBA (p : BOp) (s : State) : Host.Outcome State Fault Refusal :=
  aluMB .xor p .acc s

end Sys2Proof.Machine
end

