-- ==== Sys2Proof/Machine/Other.lean ====
section
/-! DEFINITION. Carry, DD, interrupt-enable and other instructions (49_other.md). -/

namespace Sys2Proof.Machine

/-- `SC` (R471). -/
def execSc (s : State) : Host.Outcome State Fault Refusal :=
  retire s (.ok (s.setPsw (Psw.setC s.psw true)))

/-- `RC` (R472). -/
def execRc (s : State) : Host.Outcome State Fault Refusal :=
  retire s (.ok (s.setPsw (Psw.setC s.psw false)))

/-- `CPL C` (R473). -/
def execCplC (s : State) : Host.Outcome State Fault Refusal :=
  retire s (.ok (s.setPsw (Psw.setC s.psw (!Psw.c s.psw))))

/-- `SDD` (R474). -/
def execSdd (s : State) : Host.Outcome State Fault Refusal :=
  retireSync (.ok (s.setDD true))

/-- `RDD` (R475). -/
def execRdd (s : State) : Host.Outcome State Fault Refusal :=
  retireSync (.ok (s.setDD false))

/-- `EI` (R476). -/
def execEi (s : State) : Host.Outcome State Fault Refusal :=
  retire s (.ok (s.setPsw (Psw.setMie s.psw true)))

/-- `DI` (R477). -/
def execDi (s : State) : Host.Outcome State Fault Refusal :=
  retire s (.ok (s.setPsw (Psw.setMie s.psw false)))

/-- `EXTND` (R478). -/
def execExtnd (s : State) : Host.Outcome State Fault Refusal :=
  retireSync (.ok (let v := sext8 (loByte s.a); (s.setA v).setPsw (Psw.setDd (Psw.setS s.psw v.msb) true)))

/-- `NOP` (R479). -/
def execNop (s : State) : Host.Outcome State Fault Refusal :=
  retire s (.ok s)

/-- `BRK` (R480). -/
def execBrk (s : State) : Host.Outcome State Fault Refusal :=
  retireSync (brkReset s)

/-- `MAC` (R481). -/
def execMac (a : Byte) (bit : Fin 8) (s : State) : Host.Outcome State Fault Refusal :=
  atBit (.mem (.sfr a)) (fun l t => putBitZ l bit.val true t) s

end Sys2Proof.Machine
end

