-- ==== Sys2Proof/Machine/RomTable.lean ====
section
/-! DEFINITION. ROM table reference (46_rom_table.md): LC, LCB, CMPC, CMPCB. None of them changes DD (R360). -/

namespace Sys2Proof.Machine

/-! ## Shared operations -/

/-- The table offset `RdW(P) + T16` (R360); `[**]` is the base 0. -/
def tableOff (p : WOp) (base : Word) (s : State) : Res (Word × State) := do
  let (l, t) ← locW p s
  let v ← rdW l t
  return (v + base, t)

/-- `A <- TRead(t, 2); Z <- (v = 0)` (R361 to R363). -/
def tableLoadW (s : State) (off : Word) : Res State := do
  let v ← tReadWord s off
  return (s.setA v).setPsw (Psw.setZ s.psw (v == 0))

/-- `AL <- TRead(t, 1); Z <- (v = 0)` (R364 to R366). -/
def tableLoadB (s : State) (off : Word) : Res State := do
  let v ← tReadByte s off
  return (s.setA (setLo s.a v)).setPsw (Psw.setZ s.psw (v == 0))

/-- `SubFlags(16, A, TRead(t, 2), 0)` (R367 to R369). -/
def tableCmpW (s : State) (off : Word) : Res State := do
  let v ← tReadWord s off
  return s.aluAccW .cmp v

/-- `SubFlags(8, AL, TRead(t, 1), 0)` (R370 to R372). -/
def tableCmpB (s : State) (off : Word) : Res State := do
  let v ← tReadByte s off
  return s.aluAccB .cmp v

/-! ## The instructions -/

/-- `LC A,[**]` (R361). -/
def execLcAInd (p : WOp) (s : State) : Host.Outcome State Fault Refusal :=
  retire s (do
    let (off, t) ← tableOff p 0 s
    tableLoadW t off)

/-- `LC A,T16[**]` (R362). -/
def execLcAT16 (p : WOp) (w : Word) (s : State) : Host.Outcome State Fault Refusal :=
  retire s (do
    let (off, t) ← tableOff p w s
    tableLoadW t off)

/-- `LC A,Tadr` (R363). -/
def execLcATadr (w : Word) (s : State) : Host.Outcome State Fault Refusal :=
  retire s (tableLoadW s w)

/-- `LCB A,[**]` (R364). -/
def execLcbAInd (p : WOp) (s : State) : Host.Outcome State Fault Refusal :=
  retire s (do
    let (off, t) ← tableOff p 0 s
    tableLoadB t off)

/-- `LCB A,T16[**]` (R365). -/
def execLcbAT16 (p : WOp) (w : Word) (s : State) : Host.Outcome State Fault Refusal :=
  retire s (do
    let (off, t) ← tableOff p w s
    tableLoadB t off)

/-- `LCB A,Tadr` (R366). -/
def execLcbATadr (w : Word) (s : State) : Host.Outcome State Fault Refusal :=
  retire s (tableLoadB s w)

/-- `CMPC A,[**]` (R367). -/
def execCmpcAInd (p : WOp) (s : State) : Host.Outcome State Fault Refusal :=
  retire s (do
    let (off, t) ← tableOff p 0 s
    tableCmpW t off)

/-- `CMPC A,T16[**]` (R368). -/
def execCmpcAT16 (p : WOp) (w : Word) (s : State) : Host.Outcome State Fault Refusal :=
  retire s (do
    let (off, t) ← tableOff p w s
    tableCmpW t off)

/-- `CMPC A,Tadr` (R369). -/
def execCmpcATadr (w : Word) (s : State) : Host.Outcome State Fault Refusal :=
  retire s (tableCmpW s w)

/-- `CMPCB A,[**]` (R370). -/
def execCmpcbAInd (p : WOp) (s : State) : Host.Outcome State Fault Refusal :=
  retire s (do
    let (off, t) ← tableOff p 0 s
    tableCmpB t off)

/-- `CMPCB A,T16[**]` (R371). -/
def execCmpcbAT16 (p : WOp) (w : Word) (s : State) : Host.Outcome State Fault Refusal :=
  retire s (do
    let (off, t) ← tableOff p w s
    tableCmpB t off)

/-- `CMPCB A,Tadr` (R372). -/
def execCmpcbATadr (w : Word) (s : State) : Host.Outcome State Fault Refusal :=
  retire s (tableCmpB s w)

end Sys2Proof.Machine
end

