-- ==== Sys2Proof/Machine/Shift.lean ====
section
/-! DEFINITION. Shifts and rotates (42_shift_rotate.md). A width is encoded as width - 1 (30_encoding.md R155). -/

namespace Sys2Proof.Machine

/-! ## Shared operations -/

/-- `WrW(P, op(RdW(P), C, n))` with C written first, so that a destination in PSW overrides it (R250, R251, D11). -/
def shiftW (op : ShiftOp) (p : WOp) (n : Nat) (s : State) : Host.Outcome State Fault Refusal :=
  retire s (do
    let (l, t) ← locW p s
    let x ← rdW l t
    let r := shiftRun op (Psw.c t.psw) x n
    wrW l r.1 (t.setPsw (Psw.setC t.psw r.2)))

/-- `WrB(P, op(RdB(P), C, n))` (R250, R251, D11). -/
def shiftB (op : ShiftOp) (p : BOp) (n : Nat) (s : State) : Host.Outcome State Fault Refusal :=
  retire s (do
    let (l, t) ← locB p s
    let x ← rdB l t
    let r := shiftRun op (Psw.c t.psw) x n
    wrB l r.1 (t.setPsw (Psw.setC t.psw r.2)))

/-! ## The instructions -/

/-- `SLL A` (R252). -/
def execSllA (s : State) : Host.Outcome State Fault Refusal :=
  shiftW .sll .acc 1 s

/-- `SLLB A` (R254). -/
def execSllbA (s : State) : Host.Outcome State Fault Refusal :=
  shiftB .sll .acc 1 s

/-- `SLL A,width` (R252). -/
def execSllAWidth (k : Fin 4) (s : State) : Host.Outcome State Fault Refusal :=
  shiftW .sll .acc (k.val + 1) s

/-- `SLLB A,width` (R254). -/
def execSllbAWidth (k : Fin 4) (s : State) : Host.Outcome State Fault Refusal :=
  shiftB .sll .acc (k.val + 1) s

/-- `SLL **,width` (R253). -/
def execSllWWidth (p : WOp) (k : Fin 4) (s : State) : Host.Outcome State Fault Refusal :=
  shiftW .sll p (k.val + 1) s

/-- `SLLB *,width` (R255). -/
def execSllbBWidth (p : BOp) (k : Fin 4) (s : State) : Host.Outcome State Fault Refusal :=
  shiftB .sll p (k.val + 1) s

/-- `SRL A` (R256). -/
def execSrlA (s : State) : Host.Outcome State Fault Refusal :=
  shiftW .srl .acc 1 s

/-- `SRLB A` (R258). -/
def execSrlbA (s : State) : Host.Outcome State Fault Refusal :=
  shiftB .srl .acc 1 s

/-- `SRL A,width` (R256). -/
def execSrlAWidth (k : Fin 4) (s : State) : Host.Outcome State Fault Refusal :=
  shiftW .srl .acc (k.val + 1) s

/-- `SRLB A,width` (R258). -/
def execSrlbAWidth (k : Fin 4) (s : State) : Host.Outcome State Fault Refusal :=
  shiftB .srl .acc (k.val + 1) s

/-- `SRL **,width` (R257). -/
def execSrlWWidth (p : WOp) (k : Fin 4) (s : State) : Host.Outcome State Fault Refusal :=
  shiftW .srl p (k.val + 1) s

/-- `SRLB *,width` (R259). -/
def execSrlbBWidth (p : BOp) (k : Fin 4) (s : State) : Host.Outcome State Fault Refusal :=
  shiftB .srl p (k.val + 1) s

/-- `SRA A,width` (R260). -/
def execSraAWidth (k : Fin 4) (s : State) : Host.Outcome State Fault Refusal :=
  shiftW .sra .acc (k.val + 1) s

/-- `SRAB A,width` (R262). -/
def execSrabAWidth (k : Fin 4) (s : State) : Host.Outcome State Fault Refusal :=
  shiftB .sra .acc (k.val + 1) s

/-- `SRA **,width` (R261). -/
def execSraWWidth (p : WOp) (k : Fin 4) (s : State) : Host.Outcome State Fault Refusal :=
  shiftW .sra p (k.val + 1) s

/-- `SRAB *,width` (R263). -/
def execSrabBWidth (p : BOp) (k : Fin 4) (s : State) : Host.Outcome State Fault Refusal :=
  shiftB .sra p (k.val + 1) s

/-- `ROL A` (R264). -/
def execRolA (s : State) : Host.Outcome State Fault Refusal :=
  shiftW .rol .acc 1 s

/-- `ROLB A` (R266). -/
def execRolbA (s : State) : Host.Outcome State Fault Refusal :=
  shiftB .rol .acc 1 s

/-- `ROL A,width` (R264). -/
def execRolAWidth (k : Fin 4) (s : State) : Host.Outcome State Fault Refusal :=
  shiftW .rol .acc (k.val + 1) s

/-- `ROLB A,width` (R266). -/
def execRolbAWidth (k : Fin 4) (s : State) : Host.Outcome State Fault Refusal :=
  shiftB .rol .acc (k.val + 1) s

/-- `ROL **,width` (R265). -/
def execRolWWidth (p : WOp) (k : Fin 4) (s : State) : Host.Outcome State Fault Refusal :=
  shiftW .rol p (k.val + 1) s

/-- `ROLB *,width` (R267). -/
def execRolbBWidth (p : BOp) (k : Fin 4) (s : State) : Host.Outcome State Fault Refusal :=
  shiftB .rol p (k.val + 1) s

/-- `ROR A` (R268). -/
def execRorA (s : State) : Host.Outcome State Fault Refusal :=
  shiftW .ror .acc 1 s

/-- `RORB A` (R270). -/
def execRorbA (s : State) : Host.Outcome State Fault Refusal :=
  shiftB .ror .acc 1 s

/-- `ROR A,width` (R268). -/
def execRorAWidth (k : Fin 4) (s : State) : Host.Outcome State Fault Refusal :=
  shiftW .ror .acc (k.val + 1) s

/-- `RORB A,width` (R270). -/
def execRorbAWidth (k : Fin 4) (s : State) : Host.Outcome State Fault Refusal :=
  shiftB .ror .acc (k.val + 1) s

/-- `ROR **,width` (R269). -/
def execRorWWidth (p : WOp) (k : Fin 4) (s : State) : Host.Outcome State Fault Refusal :=
  shiftW .ror p (k.val + 1) s

/-- `RORB *,width` (R271). -/
def execRorbBWidth (p : BOp) (k : Fin 4) (s : State) : Host.Outcome State Fault Refusal :=
  shiftB .ror p (k.val + 1) s

end Sys2Proof.Machine
end

