-- ==== Sys2Proof/Machine/Stack.lean ====
section
/-! DEFINITION. PUSHS and POPS (41_stack.md). A register list stands in the instruction as a list; the byte that encodes it
is the device's REGMASK (R241, log 18). -/

namespace Sys2Proof.Machine

/-! ## Shared operations -/

/-- Push each register that is named. Its value is read at its own turn, after the pushes before it (R111, R243). -/
def pushEach : List (Bool × (State → Res Word)) → State → Res State
  | [], s => .ok s
  | (named, value) :: t, s =>
    if named then do
      let w ← value s
      let s ← push16 s w
      pushEach t s
    else pushEach t s

/-- The registers of a list in the fixed push order with how each is read, at the addresses current at the start of the
instruction: ER3, ER2, ER1, ER0; USP, DP, X2, X1; A, LRB, PSW (R243). -/
def pushOrder (l : RegList) (s : State) : List (Bool × (State → Res Word)) :=
  let atOff (off : Word) : State → Res Word := fun t => memReadWord t 0 off
  match l with
  | .er e0 e1 e2 e3 => [(e3, atOff (s.rAddr 6)), (e2, atOff (s.rAddr 4)), (e1, atOff (s.rAddr 2)), (e0, atOff (s.rAddr 0))]
  | .pr x1 x2 dp usp =>
    [(usp, atOff (s.prAddr .usp)), (dp, atOff (s.prAddr .dp)), (x2, atOff (s.prAddr .x2)), (x1, atOff (s.prAddr .x1))]
  | .cr a lrb psw => [(a, fun t => .ok t.a), (lrb, fun t => .ok t.lrb), (psw, fun t => .ok t.psw)]

/-- Pop into each register that is named. -/
def popEach : List (Bool × (Word → State → Res State)) → State → Res State
  | [], s => .ok s
  | (named, f) :: t, s =>
    if named then do
      let (w, s) ← pop16 s
      let s ← f w s
      popEach t s
    else popEach t s

/-- The registers of a list in the fixed pop order with how each is written, at the addresses current at the start of the
instruction: ER0, ER1, ER2, ER3; X1, X2, DP, USP; PSW, LRB, A (R244). -/
def popOrder (l : RegList) (s : State) : List (Bool × (Word → State → Res State)) :=
  let atOff (off : Word) : Word → State → Res State := fun w t => memWriteWord t 0 off w
  match l with
  | .er e0 e1 e2 e3 => [(e0, atOff (s.rAddr 0)), (e1, atOff (s.rAddr 2)), (e2, atOff (s.rAddr 4)), (e3, atOff (s.rAddr 6))]
  | .pr x1 x2 dp usp =>
    [(x1, atOff (s.prAddr .x1)), (x2, atOff (s.prAddr .x2)), (dp, atOff (s.prAddr .dp)), (usp, atOff (s.prAddr .usp))]
  | .cr a lrb psw =>
    [(psw, fun w t => .ok (t.setPsw w)), (lrb, fun w t => .ok (t.setLrb w)), (a, fun w t => .ok (t.setA w))]

/-- Whether a list names PSW. -/
def namesPsw (l : RegList) : Bool :=
  match l with
  | .cr _ _ psw => psw
  | .er _ _ _ _ | .pr _ _ _ _ => false

/-! ## The instructions -/

/-- `PUSHS A` (R242). -/
def execPushsA (s : State) : Host.Outcome State Fault Refusal :=
  retire s (push16 s s.a)

/-- `PUSHS register_list` (R243). -/
def execPushs (l : RegList) (s : State) : Host.Outcome State Fault Refusal :=
  retire s (pushEach (pushOrder l s) s)

/-- `POPS register_list` (R244). -/
def execPops (l : RegList) (s : State) : Host.Outcome State Fault Refusal :=
  if namesPsw l then retireDraw s (popEach (popOrder l s) s) else retire s (popEach (popOrder l s) s)

end Sys2Proof.Machine
end

