-- ==== Sys2Proof/Machine/Unlisted.lean ====
section
/-! DEFINITION. The prefix rows of the opcode table and the unassigned first bytes. A prefix is no instruction: it names the
operand of the suffix behind it (30_encoding.md R140, R141). A prefix behind which stands a suffix byte no rule lists, and a
first byte 54 to 57, are unlisted encodings, and the run ends there with a fault (R165, D1, log 13). -/

namespace Sys2Proof.Machine

/-- "the model's decoder returns fault(unlisted encoding)" (R165, D1). -/
def unlistedFault : Host.Outcome State Fault Refusal := .fault .unlistedEncoding

/-- `<word> A` (R140). -/
def execPfxWA (_s : Byte) (_st : State) : Host.Outcome State Fault Refusal :=
  unlistedFault

/-- `<word> PRn` (R140). -/
def execPfxWPr (_n : PR) (_s : Byte) (_st : State) : Host.Outcome State Fault Refusal :=
  unlistedFault

/-- `<word> ERn` (R140). -/
def execPfxWEr (_n : ER) (_s : Byte) (_st : State) : Host.Outcome State Fault Refusal :=
  unlistedFault

/-- `<byte> Rn` (R141). -/
def execPfxBR (_n : R8) (_s : Byte) (_st : State) : Host.Outcome State Fault Refusal :=
  unlistedFault

/-- `<word> [X1]` (R140). -/
def execPfxWX1 (_s : Byte) (_st : State) : Host.Outcome State Fault Refusal :=
  unlistedFault

/-- `<byte> [X1]` (R141). -/
def execPfxBX1 (_s : Byte) (_st : State) : Host.Outcome State Fault Refusal :=
  unlistedFault

/-- `<word> [DP-]` (R140). -/
def execPfxWDpDec (_s : Byte) (_st : State) : Host.Outcome State Fault Refusal :=
  unlistedFault

/-- `<byte> [DP-]` (R141). -/
def execPfxBDpDec (_s : Byte) (_st : State) : Host.Outcome State Fault Refusal :=
  unlistedFault

/-- `<word> [DP]` (R140). -/
def execPfxWDp (_s : Byte) (_st : State) : Host.Outcome State Fault Refusal :=
  unlistedFault

/-- `<byte> [DP]` (R141). -/
def execPfxBDp (_s : Byte) (_st : State) : Host.Outcome State Fault Refusal :=
  unlistedFault

/-- `<word> [DP+]` (R140). -/
def execPfxWDpInc (_s : Byte) (_st : State) : Host.Outcome State Fault Refusal :=
  unlistedFault

/-- `<byte> [DP+]` (R141). -/
def execPfxBDpInc (_s : Byte) (_st : State) : Host.Outcome State Fault Refusal :=
  unlistedFault

/-- `<word> fix` (R140). -/
def execPfxWFix (_a : Byte) (_s : Byte) (_st : State) : Host.Outcome State Fault Refusal :=
  unlistedFault

/-- `<byte> fix` (R141). -/
def execPfxBFix (_a : Byte) (_s : Byte) (_st : State) : Host.Outcome State Fault Refusal :=
  unlistedFault

/-- `<word> off` (R140). -/
def execPfxWOff (_a : Byte) (_s : Byte) (_st : State) : Host.Outcome State Fault Refusal :=
  unlistedFault

/-- `<byte> off` (R141). -/
def execPfxBOff (_a : Byte) (_s : Byte) (_st : State) : Host.Outcome State Fault Refusal :=
  unlistedFault

/-- `<word> sfr` (R140). -/
def execPfxWSfr (_a : Byte) (_s : Byte) (_st : State) : Host.Outcome State Fault Refusal :=
  unlistedFault

/-- `<byte> sfr` (R141). -/
def execPfxBSfr (_a : Byte) (_s : Byte) (_st : State) : Host.Outcome State Fault Refusal :=
  unlistedFault

/-- `<word> dir` (R140). -/
def execPfxWDir (_w : Word) (_s : Byte) (_st : State) : Host.Outcome State Fault Refusal :=
  unlistedFault

/-- `<byte> dir` (R141). -/
def execPfxBDir (_w : Word) (_s : Byte) (_st : State) : Host.Outcome State Fault Refusal :=
  unlistedFault

/-- `<word> D16[X1]` (R140). -/
def execPfxWD16X1 (_w : Word) (_s : Byte) (_st : State) : Host.Outcome State Fault Refusal :=
  unlistedFault

/-- `<byte> D16[X1]` (R141). -/
def execPfxBD16X1 (_w : Word) (_s : Byte) (_st : State) : Host.Outcome State Fault Refusal :=
  unlistedFault

/-- `<word> D16[X2]` (R140). -/
def execPfxWD16X2 (_w : Word) (_s : Byte) (_st : State) : Host.Outcome State Fault Refusal :=
  unlistedFault

/-- `<byte> D16[X2]` (R141). -/
def execPfxBD16X2 (_w : Word) (_s : Byte) (_st : State) : Host.Outcome State Fault Refusal :=
  unlistedFault

/-- `<word> [X1+A]` (R140). -/
def execPfxWX1A (_s : Byte) (_st : State) : Host.Outcome State Fault Refusal :=
  unlistedFault

/-- `<byte> [X1+A]` (R141). -/
def execPfxBX1A (_s : Byte) (_st : State) : Host.Outcome State Fault Refusal :=
  unlistedFault

/-- `<word> [X1+R0]` (R140). -/
def execPfxWX1R0 (_s : Byte) (_st : State) : Host.Outcome State Fault Refusal :=
  unlistedFault

/-- `<byte> [X1+R0]` (R141). -/
def execPfxBX1R0 (_s : Byte) (_st : State) : Host.Outcome State Fault Refusal :=
  unlistedFault

/-- `<word> n7[DP] (b2[7]=0) / n7[USP] (b2[7]=1)` (R140). -/
def execPfxWN7 (_b : N7Base) (_n : BitVec 7) (_s : Byte) (_st : State) : Host.Outcome State Fault Refusal :=
  unlistedFault

/-- `<byte> n7[DP] (b2[7]=0) / n7[USP] (b2[7]=1)` (R141). -/
def execPfxBN7 (_b : N7Base) (_n : BitVec 7) (_s : Byte) (_st : State) : Host.Outcome State Fault Refusal :=
  unlistedFault

/-- `<byte> PSWL` (R141). -/
def execPfxBPswl (_s : Byte) (_st : State) : Host.Outcome State Fault Refusal :=
  unlistedFault

/-- `<byte> PSWH` (R141). -/
def execPfxBPswh (_s : Byte) (_st : State) : Host.Outcome State Fault Refusal :=
  unlistedFault

/-- `(unlisted)` (R165). -/
def execUnassigned (_lo : Fin 4) (_s : State) : Host.Outcome State Fault Refusal :=
  unlistedFault

end Sys2Proof.Machine
end

