-- ==== Sys2Proof/Machine/Dispatch.lean ====
section
/-! DEFINITION. The meaning of every instruction: one arm per constructor of Instr, one call of its own meaning. -/

namespace Sys2Proof.Machine

def exec (i : Instr) (s : State) : Host.Outcome State Fault Refusal :=
  match i with
  | .lAImm v => Sys2Proof.Machine.execLAImm v s
  | .lAEr n => Sys2Proof.Machine.execLAEr n s
  | .lAPr n => Sys2Proof.Machine.execLAPr n s
  | .lAX1 => Sys2Proof.Machine.execLAX1 s
  | .lbAX1 => Sys2Proof.Machine.execLbAX1 s
  | .lADpDec => Sys2Proof.Machine.execLADpDec s
  | .lbADpDec => Sys2Proof.Machine.execLbADpDec s
  | .lADp => Sys2Proof.Machine.execLADp s
  | .lbADp => Sys2Proof.Machine.execLbADp s
  | .lADpInc => Sys2Proof.Machine.execLADpInc s
  | .lbADpInc => Sys2Proof.Machine.execLbADpInc s
  | .lAFix a => Sys2Proof.Machine.execLAFix a s
  | .lbAFix a => Sys2Proof.Machine.execLbAFix a s
  | .lAOff a => Sys2Proof.Machine.execLAOff a s
  | .lbAOff a => Sys2Proof.Machine.execLbAOff a s
  | .lASfr a => Sys2Proof.Machine.execLASfr a s
  | .lbASfr a => Sys2Proof.Machine.execLbASfr a s
  | .lADir w => Sys2Proof.Machine.execLADir w s
  | .lbADir w => Sys2Proof.Machine.execLbADir w s
  | .lAD16X1 w => Sys2Proof.Machine.execLAD16X1 w s
  | .lbAD16X1 w => Sys2Proof.Machine.execLbAD16X1 w s
  | .lAN7 b n => Sys2Proof.Machine.execLAN7 b n s
  | .lbAN7 b n => Sys2Proof.Machine.execLbAN7 b n s
  | .lbAImm v => Sys2Proof.Machine.execLbAImm v s
  | .lbAR n => Sys2Proof.Machine.execLbAR n s
  | .stAEr n => Sys2Proof.Machine.execStAEr n s
  | .stAPr n => Sys2Proof.Machine.execStAPr n s
  | .stbAR n => Sys2Proof.Machine.execStbAR n s
  | .stAX1 => Sys2Proof.Machine.execStAX1 s
  | .stbAX1 => Sys2Proof.Machine.execStbAX1 s
  | .stADpDec => Sys2Proof.Machine.execStADpDec s
  | .stbADpDec => Sys2Proof.Machine.execStbADpDec s
  | .stADp => Sys2Proof.Machine.execStADp s
  | .stbADp => Sys2Proof.Machine.execStbADp s
  | .stADpInc => Sys2Proof.Machine.execStADpInc s
  | .stbADpInc => Sys2Proof.Machine.execStbADpInc s
  | .stAFix a => Sys2Proof.Machine.execStAFix a s
  | .stbAFix a => Sys2Proof.Machine.execStbAFix a s
  | .stAOff a => Sys2Proof.Machine.execStAOff a s
  | .stbAOff a => Sys2Proof.Machine.execStbAOff a s
  | .stASfr a => Sys2Proof.Machine.execStASfr a s
  | .stbASfr a => Sys2Proof.Machine.execStbASfr a s
  | .stADir w => Sys2Proof.Machine.execStADir w s
  | .stbADir w => Sys2Proof.Machine.execStbADir w s
  | .stAD16X1 w => Sys2Proof.Machine.execStAD16X1 w s
  | .stbAD16X1 w => Sys2Proof.Machine.execStbAD16X1 w s
  | .stAN7 b n => Sys2Proof.Machine.execStAN7 b n s
  | .stbAN7 b n => Sys2Proof.Machine.execStbAN7 b n s
  | .stAD16X2 w => Sys2Proof.Machine.execStAD16X2 w s
  | .stbAD16X2 w => Sys2Proof.Machine.execStbAD16X2 w s
  | .movPrImm n v => Sys2Proof.Machine.execMovPrImm n v s
  | .movErImm n v => Sys2Proof.Machine.execMovErImm n v s
  | .movSfrImm a v => Sys2Proof.Machine.execMovSfrImm a v s
  | .movOffImm a v => Sys2Proof.Machine.execMovOffImm a v s
  | .movbRImm n v => Sys2Proof.Machine.execMovbRImm n v s
  | .movbSfrImm a v => Sys2Proof.Machine.execMovbSfrImm a v s
  | .movbOffImm a v => Sys2Proof.Machine.execMovbOffImm a v s
  | .clrA => Sys2Proof.Machine.execClrA s
  | .clrbA => Sys2Proof.Machine.execClrbA s
  | .swap => Sys2Proof.Machine.execSwap s
  | .movAW p => Sys2Proof.Machine.execMovAW p s
  | .movErW n p => Sys2Proof.Machine.execMovErW n p s
  | .movPrW n p => Sys2Proof.Machine.execMovPrW n p s
  | .movFixW a p => Sys2Proof.Machine.execMovFixW a p s
  | .movOffW a p => Sys2Proof.Machine.execMovOffW a p s
  | .movX1W p => Sys2Proof.Machine.execMovX1W p s
  | .movDpDecW p => Sys2Proof.Machine.execMovDpDecW p s
  | .movDpW p => Sys2Proof.Machine.execMovDpW p s
  | .movDpIncW p => Sys2Proof.Machine.execMovDpIncW p s
  | .movSfrW a p => Sys2Proof.Machine.execMovSfrW a p s
  | .movD16X1W w p => Sys2Proof.Machine.execMovD16X1W w p s
  | .movD16X2W w p => Sys2Proof.Machine.execMovD16X2W w p s
  | .movN7W b n p => Sys2Proof.Machine.execMovN7W b n p s
  | .movDirW w p => Sys2Proof.Machine.execMovDirW w p s
  | .movX1AW p => Sys2Proof.Machine.execMovX1AW p s
  | .movX1R0W p => Sys2Proof.Machine.execMovX1R0W p s
  | .movWA p => Sys2Proof.Machine.execMovWA p s
  | .movWImm p v => Sys2Proof.Machine.execMovWImm p v s
  | .movbAB p => Sys2Proof.Machine.execMovbAB p s
  | .movbRB n p => Sys2Proof.Machine.execMovbRB n p s
  | .movbFixB a p => Sys2Proof.Machine.execMovbFixB a p s
  | .movbOffB a p => Sys2Proof.Machine.execMovbOffB a p s
  | .movbX1B p => Sys2Proof.Machine.execMovbX1B p s
  | .movbDpDecB p => Sys2Proof.Machine.execMovbDpDecB p s
  | .movbDpB p => Sys2Proof.Machine.execMovbDpB p s
  | .movbDpIncB p => Sys2Proof.Machine.execMovbDpIncB p s
  | .movbSfrB a p => Sys2Proof.Machine.execMovbSfrB a p s
  | .movbD16X1B w p => Sys2Proof.Machine.execMovbD16X1B w p s
  | .movbD16X2B w p => Sys2Proof.Machine.execMovbD16X2B w p s
  | .movbN7B b n p => Sys2Proof.Machine.execMovbN7B b n p s
  | .movbDirB w p => Sys2Proof.Machine.execMovbDirB w p s
  | .movbX1AB p => Sys2Proof.Machine.execMovbX1AB p s
  | .movbX1R0B p => Sys2Proof.Machine.execMovbX1R0B p s
  | .movbBA p => Sys2Proof.Machine.execMovbBA p s
  | .movbBImm p v => Sys2Proof.Machine.execMovbBImm p v s
  | .clrW p => Sys2Proof.Machine.execClrW p s
  | .clrbB p => Sys2Proof.Machine.execClrbB p s
  | .fillA => Sys2Proof.Machine.execFillA s
  | .fillbA => Sys2Proof.Machine.execFillbA s
  | .fillW p => Sys2Proof.Machine.execFillW p s
  | .fillbB p => Sys2Proof.Machine.execFillbB p s
  | .xchgAW p => Sys2Proof.Machine.execXchgAW p s
  | .xchgbAB p => Sys2Proof.Machine.execXchgbAB p s
  | .pushsA => Sys2Proof.Machine.execPushsA s
  | .pushs l => Sys2Proof.Machine.execPushs l s
  | .pops l => Sys2Proof.Machine.execPops l s
  | .sllA => Sys2Proof.Machine.execSllA s
  | .sllbA => Sys2Proof.Machine.execSllbA s
  | .sllAWidth k => Sys2Proof.Machine.execSllAWidth k s
  | .sllbAWidth k => Sys2Proof.Machine.execSllbAWidth k s
  | .sllWWidth p k => Sys2Proof.Machine.execSllWWidth p k s
  | .sllbBWidth p k => Sys2Proof.Machine.execSllbBWidth p k s
  | .srlA => Sys2Proof.Machine.execSrlA s
  | .srlbA => Sys2Proof.Machine.execSrlbA s
  | .srlAWidth k => Sys2Proof.Machine.execSrlAWidth k s
  | .srlbAWidth k => Sys2Proof.Machine.execSrlbAWidth k s
  | .srlWWidth p k => Sys2Proof.Machine.execSrlWWidth p k s
  | .srlbBWidth p k => Sys2Proof.Machine.execSrlbBWidth p k s
  | .sraAWidth k => Sys2Proof.Machine.execSraAWidth k s
  | .srabAWidth k => Sys2Proof.Machine.execSrabAWidth k s
  | .sraWWidth p k => Sys2Proof.Machine.execSraWWidth p k s
  | .srabBWidth p k => Sys2Proof.Machine.execSrabBWidth p k s
  | .rolA => Sys2Proof.Machine.execRolA s
  | .rolbA => Sys2Proof.Machine.execRolbA s
  | .rolAWidth k => Sys2Proof.Machine.execRolAWidth k s
  | .rolbAWidth k => Sys2Proof.Machine.execRolbAWidth k s
  | .rolWWidth p k => Sys2Proof.Machine.execRolWWidth p k s
  | .rolbBWidth p k => Sys2Proof.Machine.execRolbBWidth p k s
  | .rorA => Sys2Proof.Machine.execRorA s
  | .rorbA => Sys2Proof.Machine.execRorbA s
  | .rorAWidth k => Sys2Proof.Machine.execRorAWidth k s
  | .rorbAWidth k => Sys2Proof.Machine.execRorbAWidth k s
  | .rorWWidth p k => Sys2Proof.Machine.execRorWWidth p k s
  | .rorbBWidth p k => Sys2Proof.Machine.execRorbBWidth p k s
  | .incA => Sys2Proof.Machine.execIncA s
  | .incbA => Sys2Proof.Machine.execIncbA s
  | .incPr n => Sys2Proof.Machine.execIncPr n s
  | .incbR n => Sys2Proof.Machine.execIncbR n s
  | .incW p => Sys2Proof.Machine.execIncW p s
  | .incbB p => Sys2Proof.Machine.execIncbB p s
  | .decA => Sys2Proof.Machine.execDecA s
  | .decbA => Sys2Proof.Machine.execDecbA s
  | .decPr n => Sys2Proof.Machine.execDecPr n s
  | .decbR n => Sys2Proof.Machine.execDecbR n s
  | .decW p => Sys2Proof.Machine.execDecW p s
  | .decbB p => Sys2Proof.Machine.execDecbB p s
  | .addAEr n => Sys2Proof.Machine.execAddAEr n s
  | .addAPr n => Sys2Proof.Machine.execAddAPr n s
  | .addbAR n => Sys2Proof.Machine.execAddbAR n s
  | .addAFix a => Sys2Proof.Machine.execAddAFix a s
  | .addbAFix a => Sys2Proof.Machine.execAddbAFix a s
  | .addAOff a => Sys2Proof.Machine.execAddAOff a s
  | .addbAOff a => Sys2Proof.Machine.execAddbAOff a s
  | .addAImm v => Sys2Proof.Machine.execAddAImm v s
  | .addbAImm v => Sys2Proof.Machine.execAddbAImm v s
  | .addAW p => Sys2Proof.Machine.execAddAW p s
  | .addbAB p => Sys2Proof.Machine.execAddbAB p s
  | .addWFix p a => Sys2Proof.Machine.execAddWFix p a s
  | .addbBFix p a => Sys2Proof.Machine.execAddbBFix p a s
  | .addWOff p a => Sys2Proof.Machine.execAddWOff p a s
  | .addbBOff p a => Sys2Proof.Machine.execAddbBOff p a s
  | .addWSfr p a => Sys2Proof.Machine.execAddWSfr p a s
  | .addbBSfr p a => Sys2Proof.Machine.execAddbBSfr p a s
  | .addWImm p v => Sys2Proof.Machine.execAddWImm p v s
  | .addbBImm p v => Sys2Proof.Machine.execAddbBImm p v s
  | .addWA p => Sys2Proof.Machine.execAddWA p s
  | .addbBA p => Sys2Proof.Machine.execAddbBA p s
  | .adcAImm v => Sys2Proof.Machine.execAdcAImm v s
  | .adcbAImm v => Sys2Proof.Machine.execAdcbAImm v s
  | .adcAW p => Sys2Proof.Machine.execAdcAW p s
  | .adcbAB p => Sys2Proof.Machine.execAdcbAB p s
  | .adcWFix p a => Sys2Proof.Machine.execAdcWFix p a s
  | .adcbBFix p a => Sys2Proof.Machine.execAdcbBFix p a s
  | .adcWOff p a => Sys2Proof.Machine.execAdcWOff p a s
  | .adcbBOff p a => Sys2Proof.Machine.execAdcbBOff p a s
  | .adcWSfr p a => Sys2Proof.Machine.execAdcWSfr p a s
  | .adcbBSfr p a => Sys2Proof.Machine.execAdcbBSfr p a s
  | .adcWImm p v => Sys2Proof.Machine.execAdcWImm p v s
  | .adcbBImm p v => Sys2Proof.Machine.execAdcbBImm p v s
  | .adcWA p => Sys2Proof.Machine.execAdcWA p s
  | .adcbBA p => Sys2Proof.Machine.execAdcbBA p s
  | .subAEr n => Sys2Proof.Machine.execSubAEr n s
  | .subAPr n => Sys2Proof.Machine.execSubAPr n s
  | .subbAR n => Sys2Proof.Machine.execSubbAR n s
  | .subAFix a => Sys2Proof.Machine.execSubAFix a s
  | .subbAFix a => Sys2Proof.Machine.execSubbAFix a s
  | .subAOff a => Sys2Proof.Machine.execSubAOff a s
  | .subbAOff a => Sys2Proof.Machine.execSubbAOff a s
  | .subAImm v => Sys2Proof.Machine.execSubAImm v s
  | .subbAImm v => Sys2Proof.Machine.execSubbAImm v s
  | .subAW p => Sys2Proof.Machine.execSubAW p s
  | .subbAB p => Sys2Proof.Machine.execSubbAB p s
  | .subWFix p a => Sys2Proof.Machine.execSubWFix p a s
  | .subbBFix p a => Sys2Proof.Machine.execSubbBFix p a s
  | .subWOff p a => Sys2Proof.Machine.execSubWOff p a s
  | .subbBOff p a => Sys2Proof.Machine.execSubbBOff p a s
  | .subWSfr p a => Sys2Proof.Machine.execSubWSfr p a s
  | .subbBSfr p a => Sys2Proof.Machine.execSubbBSfr p a s
  | .subWImm p v => Sys2Proof.Machine.execSubWImm p v s
  | .subbBImm p v => Sys2Proof.Machine.execSubbBImm p v s
  | .subWA p => Sys2Proof.Machine.execSubWA p s
  | .subbBA p => Sys2Proof.Machine.execSubbBA p s
  | .sbcAImm v => Sys2Proof.Machine.execSbcAImm v s
  | .sbcbAImm v => Sys2Proof.Machine.execSbcbAImm v s
  | .sbcAW p => Sys2Proof.Machine.execSbcAW p s
  | .sbcbAB p => Sys2Proof.Machine.execSbcbAB p s
  | .sbcWFix p a => Sys2Proof.Machine.execSbcWFix p a s
  | .sbcbBFix p a => Sys2Proof.Machine.execSbcbBFix p a s
  | .sbcWOff p a => Sys2Proof.Machine.execSbcWOff p a s
  | .sbcbBOff p a => Sys2Proof.Machine.execSbcbBOff p a s
  | .sbcWSfr p a => Sys2Proof.Machine.execSbcWSfr p a s
  | .sbcbBSfr p a => Sys2Proof.Machine.execSbcbBSfr p a s
  | .sbcWImm p v => Sys2Proof.Machine.execSbcWImm p v s
  | .sbcbBImm p v => Sys2Proof.Machine.execSbcbBImm p v s
  | .sbcWA p => Sys2Proof.Machine.execSbcWA p s
  | .sbcbBA p => Sys2Proof.Machine.execSbcbBA p s
  | .cmpAEr n => Sys2Proof.Machine.execCmpAEr n s
  | .cmpAPr n => Sys2Proof.Machine.execCmpAPr n s
  | .cmpbAR n => Sys2Proof.Machine.execCmpbAR n s
  | .cmpAFix a => Sys2Proof.Machine.execCmpAFix a s
  | .cmpbAFix a => Sys2Proof.Machine.execCmpbAFix a s
  | .cmpAOff a => Sys2Proof.Machine.execCmpAOff a s
  | .cmpbAOff a => Sys2Proof.Machine.execCmpbAOff a s
  | .cmpAImm v => Sys2Proof.Machine.execCmpAImm v s
  | .cmpbAImm v => Sys2Proof.Machine.execCmpbAImm v s
  | .cmpAW p => Sys2Proof.Machine.execCmpAW p s
  | .cmpbAB p => Sys2Proof.Machine.execCmpbAB p s
  | .cmpWFix p a => Sys2Proof.Machine.execCmpWFix p a s
  | .cmpbBFix p a => Sys2Proof.Machine.execCmpbBFix p a s
  | .cmpWOff p a => Sys2Proof.Machine.execCmpWOff p a s
  | .cmpbBOff p a => Sys2Proof.Machine.execCmpbBOff p a s
  | .cmpWSfr p a => Sys2Proof.Machine.execCmpWSfr p a s
  | .cmpbBSfr p a => Sys2Proof.Machine.execCmpbBSfr p a s
  | .cmpWImm p v => Sys2Proof.Machine.execCmpWImm p v s
  | .cmpbBImm p v => Sys2Proof.Machine.execCmpbBImm p v s
  | .cmpWA p => Sys2Proof.Machine.execCmpWA p s
  | .cmpbBA p => Sys2Proof.Machine.execCmpbBA p s
  | .cmpFixImm a v => Sys2Proof.Machine.execCmpFixImm a v s
  | .cmpOffImm a v => Sys2Proof.Machine.execCmpOffImm a v s
  | .cmpbFixImm a v => Sys2Proof.Machine.execCmpbFixImm a v s
  | .cmpbOffImm a v => Sys2Proof.Machine.execCmpbOffImm a v s
  | .negA => Sys2Proof.Machine.execNegA s
  | .negbA => Sys2Proof.Machine.execNegbA s
  | .mulW p => Sys2Proof.Machine.execMulW p s
  | .mulbB p => Sys2Proof.Machine.execMulbB p s
  | .sqrA => Sys2Proof.Machine.execSqrA s
  | .sqrbA => Sys2Proof.Machine.execSqrbA s
  | .divW p => Sys2Proof.Machine.execDivW p s
  | .divbB p => Sys2Proof.Machine.execDivbB p s
  | .divqW p => Sys2Proof.Machine.execDivqW p s
  | .andAOff a => Sys2Proof.Machine.execAndAOff a s
  | .andbAOff a => Sys2Proof.Machine.execAndbAOff a s
  | .andAImm v => Sys2Proof.Machine.execAndAImm v s
  | .andbAImm v => Sys2Proof.Machine.execAndbAImm v s
  | .andAW p => Sys2Proof.Machine.execAndAW p s
  | .andbAB p => Sys2Proof.Machine.execAndbAB p s
  | .andWFix p a => Sys2Proof.Machine.execAndWFix p a s
  | .andbBFix p a => Sys2Proof.Machine.execAndbBFix p a s
  | .andWOff p a => Sys2Proof.Machine.execAndWOff p a s
  | .andbBOff p a => Sys2Proof.Machine.execAndbBOff p a s
  | .andWSfr p a => Sys2Proof.Machine.execAndWSfr p a s
  | .andbBSfr p a => Sys2Proof.Machine.execAndbBSfr p a s
  | .andWImm p v => Sys2Proof.Machine.execAndWImm p v s
  | .andbBImm p v => Sys2Proof.Machine.execAndbBImm p v s
  | .andWA p => Sys2Proof.Machine.execAndWA p s
  | .andbBA p => Sys2Proof.Machine.execAndbBA p s
  | .orAOff a => Sys2Proof.Machine.execOrAOff a s
  | .orbAOff a => Sys2Proof.Machine.execOrbAOff a s
  | .orAImm v => Sys2Proof.Machine.execOrAImm v s
  | .orbAImm v => Sys2Proof.Machine.execOrbAImm v s
  | .orAW p => Sys2Proof.Machine.execOrAW p s
  | .orbAB p => Sys2Proof.Machine.execOrbAB p s
  | .orWFix p a => Sys2Proof.Machine.execOrWFix p a s
  | .orbBFix p a => Sys2Proof.Machine.execOrbBFix p a s
  | .orWOff p a => Sys2Proof.Machine.execOrWOff p a s
  | .orbBOff p a => Sys2Proof.Machine.execOrbBOff p a s
  | .orWSfr p a => Sys2Proof.Machine.execOrWSfr p a s
  | .orbBSfr p a => Sys2Proof.Machine.execOrbBSfr p a s
  | .orWImm p v => Sys2Proof.Machine.execOrWImm p v s
  | .orbBImm p v => Sys2Proof.Machine.execOrbBImm p v s
  | .orWA p => Sys2Proof.Machine.execOrWA p s
  | .orbBA p => Sys2Proof.Machine.execOrbBA p s
  | .xorAOff a => Sys2Proof.Machine.execXorAOff a s
  | .xorbAOff a => Sys2Proof.Machine.execXorbAOff a s
  | .xorAImm v => Sys2Proof.Machine.execXorAImm v s
  | .xorbAImm v => Sys2Proof.Machine.execXorbAImm v s
  | .xorAW p => Sys2Proof.Machine.execXorAW p s
  | .xorbAB p => Sys2Proof.Machine.execXorbAB p s
  | .xorWFix p a => Sys2Proof.Machine.execXorWFix p a s
  | .xorbBFix p a => Sys2Proof.Machine.execXorbBFix p a s
  | .xorWOff p a => Sys2Proof.Machine.execXorWOff p a s
  | .xorbBOff p a => Sys2Proof.Machine.execXorbBOff p a s
  | .xorWSfr p a => Sys2Proof.Machine.execXorWSfr p a s
  | .xorbBSfr p a => Sys2Proof.Machine.execXorbBSfr p a s
  | .xorWImm p v => Sys2Proof.Machine.execXorWImm p v s
  | .xorbBImm p v => Sys2Proof.Machine.execXorbBImm p v s
  | .xorWA p => Sys2Proof.Machine.execXorWA p s
  | .xorbBA p => Sys2Proof.Machine.execXorbBA p s
  | .lcAInd p => Sys2Proof.Machine.execLcAInd p s
  | .lcAT16 p w => Sys2Proof.Machine.execLcAT16 p w s
  | .lcATadr w => Sys2Proof.Machine.execLcATadr w s
  | .lcbAInd p => Sys2Proof.Machine.execLcbAInd p s
  | .lcbAT16 p w => Sys2Proof.Machine.execLcbAT16 p w s
  | .lcbATadr w => Sys2Proof.Machine.execLcbATadr w s
  | .cmpcAInd p => Sys2Proof.Machine.execCmpcAInd p s
  | .cmpcAT16 p w => Sys2Proof.Machine.execCmpcAT16 p w s
  | .cmpcATadr w => Sys2Proof.Machine.execCmpcATadr w s
  | .cmpcbAInd p => Sys2Proof.Machine.execCmpcbAInd p s
  | .cmpcbAT16 p w => Sys2Proof.Machine.execCmpcbAT16 p w s
  | .cmpcbATadr w => Sys2Proof.Machine.execCmpcbATadr w s
  | .rbBit p bit => Sys2Proof.Machine.execRbBit p bit s
  | .sbBit p bit => Sys2Proof.Machine.execSbBit p bit s
  | .mbCBit p bit => Sys2Proof.Machine.execMbCBit p bit s
  | .mbBitC p bit => Sys2Proof.Machine.execMbBitC p bit s
  | .bandCBit p bit => Sys2Proof.Machine.execBandCBit p bit s
  | .bandnCBit p bit => Sys2Proof.Machine.execBandnCBit p bit s
  | .borCBit p bit => Sys2Proof.Machine.execBorCBit p bit s
  | .bornCBit p bit => Sys2Proof.Machine.execBornCBit p bit s
  | .bxorCBit p bit => Sys2Proof.Machine.execBxorCBit p bit s
  | .sbSbafix bit k => Sys2Proof.Machine.execSbSbafix bit k s
  | .rbSbafix bit k => Sys2Proof.Machine.execRbSbafix bit k s
  | .sbSbaoff bit k => Sys2Proof.Machine.execSbSbaoff bit k s
  | .rbSbaoff bit k => Sys2Proof.Machine.execRbSbaoff bit k s
  | .sbrB p => Sys2Proof.Machine.execSbrB p s
  | .rbrB p => Sys2Proof.Machine.execRbrB p s
  | .tbrB p => Sys2Proof.Machine.execTbrB p s
  | .mbrCB p => Sys2Proof.Machine.execMbrCB p s
  | .mbrBC p => Sys2Proof.Machine.execMbrBC p s
  | .jbsBit p bit d => Sys2Proof.Machine.execJbsBit p bit d s
  | .jbsSbafix bit k d => Sys2Proof.Machine.execJbsSbafix bit k d s
  | .jbsSbaoff bit k d => Sys2Proof.Machine.execJbsSbaoff bit k d s
  | .jbrBit p bit d => Sys2Proof.Machine.execJbrBit p bit d s
  | .jbrSbafix bit k d => Sys2Proof.Machine.execJbrSbafix bit k d s
  | .jbrSbaoff bit k d => Sys2Proof.Machine.execJbrSbaoff bit k d s
  | .jbsrBit p bit d => Sys2Proof.Machine.execJbsrBit p bit d s
  | .jbrsBit p bit d => Sys2Proof.Machine.execJbrsBit p bit d s
  | .tjzA d => Sys2Proof.Machine.execTjzA d s
  | .tjzW p d => Sys2Proof.Machine.execTjzW p d s
  | .tjnzA d => Sys2Proof.Machine.execTjnzA d s
  | .tjnzW p d => Sys2Proof.Machine.execTjnzW p d s
  | .tjzbA d => Sys2Proof.Machine.execTjzbA d s
  | .tjzbB p d => Sys2Proof.Machine.execTjzbB p d s
  | .tjnzbA d => Sys2Proof.Machine.execTjnzbA d s
  | .tjnzbB p d => Sys2Proof.Machine.execTjnzbB p d s
  | .jgt d => Sys2Proof.Machine.execJgt d s
  | .jge d => Sys2Proof.Machine.execJge d s
  | .jlt d => Sys2Proof.Machine.execJlt d s
  | .jle d => Sys2Proof.Machine.execJle d s
  | .jeq d => Sys2Proof.Machine.execJeq d s
  | .jne d => Sys2Proof.Machine.execJne d s
  | .jps d => Sys2Proof.Machine.execJps d s
  | .jns d => Sys2Proof.Machine.execJns d s
  | .jgts d => Sys2Proof.Machine.execJgts d s
  | .jges d => Sys2Proof.Machine.execJges d s
  | .jlts d => Sys2Proof.Machine.execJlts d s
  | .jles d => Sys2Proof.Machine.execJles d s
  | .jov d => Sys2Proof.Machine.execJov d s
  | .jnv d => Sys2Proof.Machine.execJnv d s
  | .djnzR4 d => Sys2Proof.Machine.execDjnzR4 d s
  | .djnzR5 d => Sys2Proof.Machine.execDjnzR5 d s
  | .djnzPrL n d => Sys2Proof.Machine.execDjnzPrL n d s
  | .djnzB p d => Sys2Proof.Machine.execDjnzB p d s
  | .jrnzDp d => Sys2Proof.Machine.execJrnzDp d s
  | .sj d => Sys2Proof.Machine.execSj d s
  | .jCadr w => Sys2Proof.Machine.execJCadr w s
  | .jInd p => Sys2Proof.Machine.execJInd p s
  | .calCadr w => Sys2Proof.Machine.execCalCadr w s
  | .calInd p => Sys2Proof.Machine.execCalInd p s
  | .scalCadr w => Sys2Proof.Machine.execScalCadr w s
  | .acal h lo => Sys2Proof.Machine.execAcal h lo s
  | .vcal v => Sys2Proof.Machine.execVcal v s
  | .rt => Sys2Proof.Machine.execRt s
  | .fcal seg w => Sys2Proof.Machine.execFcal seg w s
  | .fj seg w => Sys2Proof.Machine.execFj seg w s
  | .frt => Sys2Proof.Machine.execFrt s
  | .rti => Sys2Proof.Machine.execRti s
  | .sc => Sys2Proof.Machine.execSc s
  | .rc => Sys2Proof.Machine.execRc s
  | .cplC => Sys2Proof.Machine.execCplC s
  | .sdd => Sys2Proof.Machine.execSdd s
  | .rdd => Sys2Proof.Machine.execRdd s
  | .ei => Sys2Proof.Machine.execEi s
  | .di => Sys2Proof.Machine.execDi s
  | .extnd => Sys2Proof.Machine.execExtnd s
  | .nop => Sys2Proof.Machine.execNop s
  | .brk => Sys2Proof.Machine.execBrk s
  | .mac a bit => Sys2Proof.Machine.execMac a bit s
  | .pfxWA sfx => Sys2Proof.Machine.execPfxWA sfx s
  | .pfxWPr n sfx => Sys2Proof.Machine.execPfxWPr n sfx s
  | .pfxWEr n sfx => Sys2Proof.Machine.execPfxWEr n sfx s
  | .pfxBR n sfx => Sys2Proof.Machine.execPfxBR n sfx s
  | .pfxWX1 sfx => Sys2Proof.Machine.execPfxWX1 sfx s
  | .pfxBX1 sfx => Sys2Proof.Machine.execPfxBX1 sfx s
  | .pfxWDpDec sfx => Sys2Proof.Machine.execPfxWDpDec sfx s
  | .pfxBDpDec sfx => Sys2Proof.Machine.execPfxBDpDec sfx s
  | .pfxWDp sfx => Sys2Proof.Machine.execPfxWDp sfx s
  | .pfxBDp sfx => Sys2Proof.Machine.execPfxBDp sfx s
  | .pfxWDpInc sfx => Sys2Proof.Machine.execPfxWDpInc sfx s
  | .pfxBDpInc sfx => Sys2Proof.Machine.execPfxBDpInc sfx s
  | .pfxWFix a sfx => Sys2Proof.Machine.execPfxWFix a sfx s
  | .pfxBFix a sfx => Sys2Proof.Machine.execPfxBFix a sfx s
  | .pfxWOff a sfx => Sys2Proof.Machine.execPfxWOff a sfx s
  | .pfxBOff a sfx => Sys2Proof.Machine.execPfxBOff a sfx s
  | .pfxWSfr a sfx => Sys2Proof.Machine.execPfxWSfr a sfx s
  | .pfxBSfr a sfx => Sys2Proof.Machine.execPfxBSfr a sfx s
  | .pfxWDir w sfx => Sys2Proof.Machine.execPfxWDir w sfx s
  | .pfxBDir w sfx => Sys2Proof.Machine.execPfxBDir w sfx s
  | .pfxWD16X1 w sfx => Sys2Proof.Machine.execPfxWD16X1 w sfx s
  | .pfxBD16X1 w sfx => Sys2Proof.Machine.execPfxBD16X1 w sfx s
  | .pfxWD16X2 w sfx => Sys2Proof.Machine.execPfxWD16X2 w sfx s
  | .pfxBD16X2 w sfx => Sys2Proof.Machine.execPfxBD16X2 w sfx s
  | .pfxWX1A sfx => Sys2Proof.Machine.execPfxWX1A sfx s
  | .pfxBX1A sfx => Sys2Proof.Machine.execPfxBX1A sfx s
  | .pfxWX1R0 sfx => Sys2Proof.Machine.execPfxWX1R0 sfx s
  | .pfxBX1R0 sfx => Sys2Proof.Machine.execPfxBX1R0 sfx s
  | .pfxWN7 b n sfx => Sys2Proof.Machine.execPfxWN7 b n sfx s
  | .pfxBN7 b n sfx => Sys2Proof.Machine.execPfxBN7 b n sfx s
  | .pfxBPswl sfx => Sys2Proof.Machine.execPfxBPswl sfx s
  | .pfxBPswh sfx => Sys2Proof.Machine.execPfxBPswh sfx s
  | .unassigned lo => Sys2Proof.Machine.execUnassigned lo s

end Sys2Proof.Machine
end

