-- ==== Sys2Proof/Machine/Fetch.lean ====
section
/-! DEFINITION. Fetching and running one instruction (20_memory.md R105, 30_encoding.md R170), the environment's events at an
instruction boundary (60_exceptions.md R510 to R513), and loading program memory from outside. -/

namespace Sys2Proof.Machine

/-! ## Fetch -/

/-- Up to n bytes of program memory from CodeSeg():off on, ending before the first byte that has no value; the offset wraps
inside the segment (R105, R170). -/
def fetchBytes (s : State) : Nat → Word → List Byte
  | 0, _ => []
  | n + 1, off =>
    match codeReadByte s s.codeSeg off with
    | .ok b => b :: fetchBytes s n (off + 1)
    | .error _ => []

/-- Why the byte after those of `fetchBytes` has no value. -/
def fetchStop (s : State) : Nat → Word → Stop
  | 0, _ => .fault .unlistedEncoding
  | n + 1, off =>
    match codeReadByte s s.codeSeg off with
    | .ok _ => fetchStop s n (off + 1)
    | .error e => e

/-- The longest instruction is six bytes (R130). -/
def maxLength : Nat := 6

/-- The bytes at the program counter. -/
def State.window (s : State) : List Byte := fetchBytes s maxLength s.pc

/-- Decode the bytes at CodeSeg():PC under DD_FETCH, move PC past the instruction, and run it (R41, R135, R170, R410). -/
noncomputable def runInstr (s : State) : Host.Outcome State Fault Refusal :=
  match decode s.dev s.ddFetch s.window with
  | .ok (i, len) => exec i (s.setPc (s.pc + BitVec.ofNat 16 len))
  | .error .truncated => finish (.error (fetchStop s maxLength s.pc))
  | .error .regMaskNotGiven => .refused .regMaskNotGiven
  | .error .invalidMask => .fault .unlistedEncoding

/-! ## Events at an instruction boundary (R510, R513, log 12) -/

/-- RES and WDT: they win over every other event of the same boundary (R513, D22). -/
def Event.isReset (e : Event) : Bool :=
  match e with
  | .res | .wdt => true
  | .nmi | .irq _ | .setModel _ | .busWrite _ _ => false

/-- Whether the core can take an event now: a maskable interrupt needs MIE and a source of the device (R510 b), a model
setting must be the first and permitted (R66, D3), a bus write needs memory or a device SFR there. -/
def acceptable (s : State) (e : Event) : Bool :=
  match e with
  | .res | .wdt | .nmi => true
  | .irq k => Psw.mie s.psw && decide (1 ≤ k) && decide (k ≤ 32) && s.dev.irqSources.contains k
  | .setModel m => !s.modelSet && s.dev.modelsPermitted.any (· == m)
  | .busWrite a _ =>
    decide (a < 0x1000000) &&
      (if a ≤ 0x1FF then
        match sfrAt s.dev a with
        | .device _ => true
        | _ => false
      else inRanges s.dev.dataPresent a)

/-- The event taken at a boundary: the first reset offered, else the first acceptable one (R510 d, R513). -/
def pickEvent (s : State) (slot : List Event) : Option Event :=
  match slot.find? Event.isReset with
  | some e => some e
  | none => slot.find? (acceptable s)

/-- Take an event; it is the whole step (R501, R503, R512, R66, D15). No event writes program memory: whether a device can map
writable external memory into program space is not in the source (R112); that none does is the model's choice (log 46). -/
def deliver (s : State) (e : Event) : Host.Outcome State Fault Refusal :=
  match e with
  | .res => finish (resReset s)
  | .wdt => finish (wdtReset s)
  | .nmi => finish (takeInterrupt s 0)
  | .irq k => finish (takeInterrupt s k)
  | .setModel m => .next (s.setModelRaw m true)
  | .busWrite a v => .next (s.putCell a v)

/-! ## Loading program memory from outside (log 4) -/

/-- Place bytes in program memory from seg:off on. -/
def loadCode (s : State) (seg : Byte) (off : Word) : List Byte → State
  | [] => s
  | b :: t => loadCode (s.setProg (Memory.write progDefault s.prog (key seg off) b)) seg (off + 1) t

end Sys2Proof.Machine
end

