-- ==== Sys2Proof/Machine/Step.lean ====
section
/-! DEFINITION. One step of the machine: an event the environment offers at the boundary, or one instruction. -/

namespace Sys2Proof.Machine

/-- One step (R510, R513, log 12): with nothing offered, or nothing acceptable, one instruction runs. -/
noncomputable def step (s : State) : Host.Outcome State Fault Refusal :=
  match s.inputs with
  | [] => runInstr s
  | slot :: rest =>
    match pickEvent (s.setInputs rest) slot with
    | some e => deliver (s.setInputs rest) e
    | none => runInstr (s.setInputs rest)

/-- The state with an instruction's bytes placed where the step fetches next, CodeSeg():PC, and nothing offered by the
environment (log 4). -/
def State.withFetchWord (s : State) (nbits w : Nat) : State :=
  (loadCode s s.codeSeg s.pc (tableBytes nbits w)).setInputs []

end Sys2Proof.Machine
end

