-- ==== Sys2Proof/Machine/Cycles.lean ====
section
/-! DEFINITION. The "Cycles (Internal)" columns as data (30_encoding.md R181, 70_reset_and_hazards.md R560). No step reads them:
nothing architectural depends on a count (R561, D25, log 27). -/

namespace Sys2Proof.Machine

/-- The two printed counts of an encoding: not taken (or near) and taken (or far). Equal where one is printed. -/
structure Cycles where
  notTaken : Nat
  taken : Nat
deriving DecidableEq, Repr

/-- One printed count. -/
def Cycles.one (n : Nat) : Cycles := { notTaken := n, taken := n }

/-- Two printed counts, `a/b`. -/
def Cycles.two (a b : Nat) : Cycles := { notTaken := a, taken := b }

/-- The count of a memory prefix (R140, R141, R560). -/
def modeCycles (m : Mode) : Nat :=
  match m with
  | .x1 | .dp | .fix _ | .off _ | .sfr _ => 4
  | .dpDec | .dpInc => 5
  | .dir _ | .d16x1 _ | .d16x2 _ | .x1A | .x1R0 | .n7dp _ | .n7usp _ => 6

/-- The count of a word prefix (R140). -/
def cyclesW (p : WOp) : Nat :=
  match p with
  | .acc | .er _ | .pr _ => 2
  | .mem m => modeCycles m

/-- The count of a byte prefix (R141). -/
def cyclesB (p : BOp) : Nat :=
  match p with
  | .acc | .r _ | .pswl | .pswh => 2
  | .mem m => modeCycles m

/-- How many registers a list names (R560: 5 + 4 per register). -/
def RegList.count (l : RegList) : Nat :=
  match l with
  | .er a b c d | .pr a b c d => a.toNat + b.toNat + c.toNat + d.toNat
  | .cr a b c => a.toNat + b.toNat + c.toNat

/-- The cycles of an instruction: a total for a native one, the prefix's count and the suffix's for a composite one (R181).
A prefix row gives the prefix's own count; the unassigned codes print none. TJZ A and its siblings have the counts of
48_jump_call.md R417, R419, R421, R423 and 90_conflicts.md C35, where the table's column prints 6/10 (log 27). -/
def cycles (dev : Device) (i : Instr) : Cycles :=
  match i with
  | .lAImm _ => .one 6
  | .lAEr _ => .one 2
  | .lAPr _ => .one 2
  | .lAX1 => .one 4
  | .lbAX1 => .one 4
  | .lADpDec => .one 5
  | .lbADpDec => .one 5
  | .lADp => .one 4
  | .lbADp => .one 4
  | .lADpInc => .one 5
  | .lbADpInc => .one 5
  | .lAFix _ => .one 4
  | .lbAFix _ => .one 4
  | .lAOff _ => .one 4
  | .lbAOff _ => .one 4
  | .lASfr _ => .one 4
  | .lbASfr _ => .one 4
  | .lADir _ => .one 6
  | .lbADir _ => .one 6
  | .lAD16X1 _ => .one 6
  | .lbAD16X1 _ => .one 6
  | .lAN7 _ _ => .one 6
  | .lbAN7 _ _ => .one 6
  | .lbAImm _ => .one 4
  | .lbAR _ => .one 2
  | .stAEr _ => .one 2
  | .stAPr _ => .one 2
  | .stbAR _ => .one 2
  | .stAX1 => .one 4
  | .stbAX1 => .one 4
  | .stADpDec => .one 5
  | .stbADpDec => .one 5
  | .stADp => .one 4
  | .stbADp => .one 4
  | .stADpInc => .one 5
  | .stbADpInc => .one 5
  | .stAFix _ => .one 4
  | .stbAFix _ => .one 4
  | .stAOff _ => .one 4
  | .stbAOff _ => .one 4
  | .stASfr _ => .one 4
  | .stbASfr _ => .one 4
  | .stADir _ => .one 6
  | .stbADir _ => .one 6
  | .stAD16X1 _ => .one 6
  | .stbAD16X1 _ => .one 6
  | .stAN7 _ _ => .one 6
  | .stbAN7 _ _ => .one 6
  | .stAD16X2 _ => .one 8
  | .stbAD16X2 _ => .one 8
  | .movPrImm _ _ => .one 6
  | .movErImm _ _ => .one 6
  | .movSfrImm _ _ => .one 8
  | .movOffImm _ _ => .one 8
  | .movbRImm _ _ => .one 4
  | .movbSfrImm _ _ => .one 6
  | .movbOffImm _ _ => .one 6
  | .clrA => .one 2
  | .clrbA => .one 2
  | .swap => .one 2
  | .movAW p => .one (cyclesW p + 2)
  | .movErW _ p => .one (cyclesW p + 2)
  | .movPrW _ p => .one (cyclesW p + 2)
  | .movFixW _ p => .one (cyclesW p + 4)
  | .movOffW _ p => .one (cyclesW p + 4)
  | .movX1W p => .one (cyclesW p + 4)
  | .movDpDecW p => .one (cyclesW p + 5)
  | .movDpW p => .one (cyclesW p + 4)
  | .movDpIncW p => .one (cyclesW p + 5)
  | .movSfrW _ p => .one (cyclesW p + 4)
  | .movD16X1W _ p => .one (cyclesW p + 6)
  | .movD16X2W _ p => .one (cyclesW p + 6)
  | .movN7W _ _ p => .one (cyclesW p + 6)
  | .movDirW _ p => .one (cyclesW p + 6)
  | .movX1AW p => .one (cyclesW p + 6)
  | .movX1R0W p => .one (cyclesW p + 6)
  | .movWA p => .one (cyclesW p + 2)
  | .movWImm p _ => .one (cyclesW p + 6)
  | .movbAB p => .one (cyclesB p + 2)
  | .movbRB _ p => .one (cyclesB p + 2)
  | .movbFixB _ p => .one (cyclesB p + 4)
  | .movbOffB _ p => .one (cyclesB p + 4)
  | .movbX1B p => .one (cyclesB p + 4)
  | .movbDpDecB p => .one (cyclesB p + 5)
  | .movbDpB p => .one (cyclesB p + 4)
  | .movbDpIncB p => .one (cyclesB p + 5)
  | .movbSfrB _ p => .one (cyclesB p + 4)
  | .movbD16X1B _ p => .one (cyclesB p + 6)
  | .movbD16X2B _ p => .one (cyclesB p + 6)
  | .movbN7B _ _ p => .one (cyclesB p + 6)
  | .movbDirB _ p => .one (cyclesB p + 6)
  | .movbX1AB p => .one (cyclesB p + 6)
  | .movbX1R0B p => .one (cyclesB p + 6)
  | .movbBA p => .one (cyclesB p + 2)
  | .movbBImm p _ => .one (cyclesB p + 4)
  | .clrW p => .one (cyclesW p + 2)
  | .clrbB p => .one (cyclesB p + 2)
  | .fillA => .one 4
  | .fillbA => .one 4
  | .fillW p => .one (cyclesW p + 2)
  | .fillbB p => .one (cyclesB p + 2)
  | .xchgAW p => .one (cyclesW p + 3)
  | .xchgbAB p => .one (cyclesB p + 3)
  | .pushsA => .one 3
  | .pushs l => .one (5 + 4 * RegList.count l)
  | .pops l => .one (5 + 4 * RegList.count l)
  | .sllA => .one 2
  | .sllbA => .one 2
  | .sllAWidth k => .one (4 + (k.val + 1))
  | .sllbAWidth k => .one (4 + (k.val + 1))
  | .sllWWidth p k => .one (cyclesW p + 2 + (k.val + 1))
  | .sllbBWidth p k => .one (cyclesB p + 2 + (k.val + 1))
  | .srlA => .one 2
  | .srlbA => .one 2
  | .srlAWidth k => .one (4 + (k.val + 1))
  | .srlbAWidth k => .one (4 + (k.val + 1))
  | .srlWWidth p k => .one (cyclesW p + 2 + (k.val + 1))
  | .srlbBWidth p k => .one (cyclesB p + 2 + (k.val + 1))
  | .sraAWidth k => .one (4 + (k.val + 1))
  | .srabAWidth k => .one (4 + (k.val + 1))
  | .sraWWidth p k => .one (cyclesW p + 2 + (k.val + 1))
  | .srabBWidth p k => .one (cyclesB p + 2 + (k.val + 1))
  | .rolA => .one 2
  | .rolbA => .one 2
  | .rolAWidth k => .one (4 + (k.val + 1))
  | .rolbAWidth k => .one (4 + (k.val + 1))
  | .rolWWidth p k => .one (cyclesW p + 2 + (k.val + 1))
  | .rolbBWidth p k => .one (cyclesB p + 2 + (k.val + 1))
  | .rorA => .one 2
  | .rorbA => .one 2
  | .rorAWidth k => .one (4 + (k.val + 1))
  | .rorbAWidth k => .one (4 + (k.val + 1))
  | .rorWWidth p k => .one (cyclesW p + 2 + (k.val + 1))
  | .rorbBWidth p k => .one (cyclesB p + 2 + (k.val + 1))
  | .incA => .one 2
  | .incbA => .one 2
  | .incPr _ => .one 3
  | .incbR _ => .one 3
  | .incW p => .one (cyclesW p + 2)
  | .incbB p => .one (cyclesB p + 2)
  | .decA => .one 2
  | .decbA => .one 2
  | .decPr _ => .one 3
  | .decbR _ => .one 3
  | .decW p => .one (cyclesW p + 2)
  | .decbB p => .one (cyclesB p + 2)
  | .addAEr _ => .one 3
  | .addAPr _ => .one 3
  | .addbAR _ => .one 3
  | .addAFix _ => .one 4
  | .addbAFix _ => .one 4
  | .addAOff _ => .one 4
  | .addbAOff _ => .one 4
  | .addAImm _ => .one 6
  | .addbAImm _ => .one 4
  | .addAW p => .one (cyclesW p + 2)
  | .addbAB p => .one (cyclesB p + 2)
  | .addWFix p _ => .one (cyclesW p + 5)
  | .addbBFix p _ => .one (cyclesB p + 5)
  | .addWOff p _ => .one (cyclesW p + 5)
  | .addbBOff p _ => .one (cyclesB p + 5)
  | .addWSfr p _ => .one (cyclesW p + 5)
  | .addbBSfr p _ => .one (cyclesB p + 5)
  | .addWImm p _ => .one (cyclesW p + 6)
  | .addbBImm p _ => .one (cyclesB p + 4)
  | .addWA p => .one (cyclesW p + 2)
  | .addbBA p => .one (cyclesB p + 2)
  | .adcAImm _ => .one 8
  | .adcbAImm _ => .one 6
  | .adcAW p => .one (cyclesW p + 2)
  | .adcbAB p => .one (cyclesB p + 2)
  | .adcWFix p _ => .one (cyclesW p + 5)
  | .adcbBFix p _ => .one (cyclesB p + 5)
  | .adcWOff p _ => .one (cyclesW p + 5)
  | .adcbBOff p _ => .one (cyclesB p + 5)
  | .adcWSfr p _ => .one (cyclesW p + 5)
  | .adcbBSfr p _ => .one (cyclesB p + 5)
  | .adcWImm p _ => .one (cyclesW p + 6)
  | .adcbBImm p _ => .one (cyclesB p + 4)
  | .adcWA p => .one (cyclesW p + 2)
  | .adcbBA p => .one (cyclesB p + 2)
  | .subAEr _ => .one 3
  | .subAPr _ => .one 3
  | .subbAR _ => .one 3
  | .subAFix _ => .one 4
  | .subbAFix _ => .one 4
  | .subAOff _ => .one 4
  | .subbAOff _ => .one 4
  | .subAImm _ => .one 6
  | .subbAImm _ => .one 4
  | .subAW p => .one (cyclesW p + 2)
  | .subbAB p => .one (cyclesB p + 2)
  | .subWFix p _ => .one (cyclesW p + 5)
  | .subbBFix p _ => .one (cyclesB p + 5)
  | .subWOff p _ => .one (cyclesW p + 5)
  | .subbBOff p _ => .one (cyclesB p + 5)
  | .subWSfr p _ => .one (cyclesW p + 5)
  | .subbBSfr p _ => .one (cyclesB p + 5)
  | .subWImm p _ => .one (cyclesW p + 6)
  | .subbBImm p _ => .one (cyclesB p + 4)
  | .subWA p => .one (cyclesW p + 2)
  | .subbBA p => .one (cyclesB p + 2)
  | .sbcAImm _ => .one 8
  | .sbcbAImm _ => .one 6
  | .sbcAW p => .one (cyclesW p + 2)
  | .sbcbAB p => .one (cyclesB p + 2)
  | .sbcWFix p _ => .one (cyclesW p + 5)
  | .sbcbBFix p _ => .one (cyclesB p + 5)
  | .sbcWOff p _ => .one (cyclesW p + 5)
  | .sbcbBOff p _ => .one (cyclesB p + 5)
  | .sbcWSfr p _ => .one (cyclesW p + 5)
  | .sbcbBSfr p _ => .one (cyclesB p + 5)
  | .sbcWImm p _ => .one (cyclesW p + 6)
  | .sbcbBImm p _ => .one (cyclesB p + 4)
  | .sbcWA p => .one (cyclesW p + 2)
  | .sbcbBA p => .one (cyclesB p + 2)
  | .cmpAEr _ => .one 3
  | .cmpAPr _ => .one 3
  | .cmpbAR _ => .one 3
  | .cmpAFix _ => .one 4
  | .cmpbAFix _ => .one 4
  | .cmpAOff _ => .one 4
  | .cmpbAOff _ => .one 4
  | .cmpAImm _ => .one 6
  | .cmpbAImm _ => .one 4
  | .cmpAW p => .one (cyclesW p + 2)
  | .cmpbAB p => .one (cyclesB p + 2)
  | .cmpWFix p _ => .one (cyclesW p + 5)
  | .cmpbBFix p _ => .one (cyclesB p + 5)
  | .cmpWOff p _ => .one (cyclesW p + 5)
  | .cmpbBOff p _ => .one (cyclesB p + 5)
  | .cmpWSfr p _ => .one (cyclesW p + 5)
  | .cmpbBSfr p _ => .one (cyclesB p + 5)
  | .cmpWImm p _ => .one (cyclesW p + 6)
  | .cmpbBImm p _ => .one (cyclesB p + 4)
  | .cmpWA p => .one (cyclesW p + 2)
  | .cmpbBA p => .one (cyclesB p + 2)
  | .cmpFixImm _ _ => .one 8
  | .cmpOffImm _ _ => .one 8
  | .cmpbFixImm _ _ => .one 6
  | .cmpbOffImm _ _ => .one 6
  | .negA => .one 3
  | .negbA => .one 3
  | .mulW p => .one (cyclesW p + if dev.hasMultiplier then 3 else 21)
  | .mulbB p => .one (cyclesB p + if dev.hasMultiplier then 2 else 12)
  | .sqrA => .one 23
  | .sqrbA => .one 14
  | .divW p => .one (cyclesW p + 42)
  | .divbB p => .one (cyclesB p + 22)
  | .divqW p => .one (cyclesW p + 24)
  | .andAOff _ => .one 4
  | .andbAOff _ => .one 4
  | .andAImm _ => .one 6
  | .andbAImm _ => .one 4
  | .andAW p => .one (cyclesW p + 2)
  | .andbAB p => .one (cyclesB p + 2)
  | .andWFix p _ => .one (cyclesW p + 5)
  | .andbBFix p _ => .one (cyclesB p + 5)
  | .andWOff p _ => .one (cyclesW p + 5)
  | .andbBOff p _ => .one (cyclesB p + 5)
  | .andWSfr p _ => .one (cyclesW p + 5)
  | .andbBSfr p _ => .one (cyclesB p + 5)
  | .andWImm p _ => .one (cyclesW p + 6)
  | .andbBImm p _ => .one (cyclesB p + 4)
  | .andWA p => .one (cyclesW p + 2)
  | .andbBA p => .one (cyclesB p + 2)
  | .orAOff _ => .one 4
  | .orbAOff _ => .one 4
  | .orAImm _ => .one 6
  | .orbAImm _ => .one 4
  | .orAW p => .one (cyclesW p + 2)
  | .orbAB p => .one (cyclesB p + 2)
  | .orWFix p _ => .one (cyclesW p + 5)
  | .orbBFix p _ => .one (cyclesB p + 5)
  | .orWOff p _ => .one (cyclesW p + 5)
  | .orbBOff p _ => .one (cyclesB p + 5)
  | .orWSfr p _ => .one (cyclesW p + 5)
  | .orbBSfr p _ => .one (cyclesB p + 5)
  | .orWImm p _ => .one (cyclesW p + 6)
  | .orbBImm p _ => .one (cyclesB p + 4)
  | .orWA p => .one (cyclesW p + 2)
  | .orbBA p => .one (cyclesB p + 2)
  | .xorAOff _ => .one 4
  | .xorbAOff _ => .one 4
  | .xorAImm _ => .one 6
  | .xorbAImm _ => .one 4
  | .xorAW p => .one (cyclesW p + 2)
  | .xorbAB p => .one (cyclesB p + 2)
  | .xorWFix p _ => .one (cyclesW p + 5)
  | .xorbBFix p _ => .one (cyclesB p + 5)
  | .xorWOff p _ => .one (cyclesW p + 5)
  | .xorbBOff p _ => .one (cyclesB p + 5)
  | .xorWSfr p _ => .one (cyclesW p + 5)
  | .xorbBSfr p _ => .one (cyclesB p + 5)
  | .xorWImm p _ => .one (cyclesW p + 6)
  | .xorbBImm p _ => .one (cyclesB p + 4)
  | .xorWA p => .one (cyclesW p + 2)
  | .xorbBA p => .one (cyclesB p + 2)
  | .lcAInd p => .one (cyclesW p + 9)
  | .lcAT16 p _ => .one (cyclesW p + 13)
  | .lcATadr _ => .one 15
  | .lcbAInd p => .one (cyclesW p + 6)
  | .lcbAT16 p _ => .one (cyclesW p + 10)
  | .lcbATadr _ => .one 12
  | .cmpcAInd p => .one (cyclesW p + 9)
  | .cmpcAT16 p _ => .one (cyclesW p + 13)
  | .cmpcATadr _ => .one 15
  | .cmpcbAInd p => .one (cyclesW p + 6)
  | .cmpcbAT16 p _ => .one (cyclesW p + 10)
  | .cmpcbATadr _ => .one 12
  | .rbBit p _ => .one (cyclesB p + 3)
  | .sbBit p _ => .one (cyclesB p + 3)
  | .mbCBit p _ => .one (cyclesB p + 3)
  | .mbBitC p _ => .one (cyclesB p + 3)
  | .bandCBit p _ => .one (cyclesB p + 3)
  | .bandnCBit p _ => .one (cyclesB p + 3)
  | .borCBit p _ => .one (cyclesB p + 3)
  | .bornCBit p _ => .one (cyclesB p + 3)
  | .bxorCBit p _ => .one (cyclesB p + 3)
  | .sbSbafix _ _ => .one 4
  | .rbSbafix _ _ => .one 4
  | .sbSbaoff _ _ => .one 4
  | .rbSbaoff _ _ => .one 4
  | .sbrB p => .one (cyclesB p + 5)
  | .rbrB p => .one (cyclesB p + 5)
  | .tbrB p => .one (cyclesB p + 5)
  | .mbrCB p => .one (cyclesB p + 6)
  | .mbrBC p => .one (cyclesB p + 5)
  | .jbsBit p _ _ => .two (cyclesB p + 4) (cyclesB p + 8)
  | .jbsSbafix _ _ _ => .two 6 9
  | .jbsSbaoff _ _ _ => .two 6 9
  | .jbrBit p _ _ => .two (cyclesB p + 4) (cyclesB p + 8)
  | .jbrSbafix _ _ _ => .two 6 9
  | .jbrSbaoff _ _ _ => .two 6 9
  | .jbsrBit p _ _ => .two (cyclesB p + 4) (cyclesB p + 10)
  | .jbrsBit p _ _ => .two (cyclesB p + 4) (cyclesB p + 10)
  | .tjzA _ => .two 7 11
  | .tjzW p _ => .two (cyclesW p + 4) (cyclesW p + 8)
  | .tjnzA _ => .two 7 11
  | .tjnzW p _ => .two (cyclesW p + 4) (cyclesW p + 8)
  | .tjzbA _ => .two 7 11
  | .tjzbB p _ => .two (cyclesB p + 4) (cyclesB p + 8)
  | .tjnzbA _ => .two 7 11
  | .tjnzbB p _ => .two (cyclesB p + 4) (cyclesB p + 8)
  | .jgt _ => .two 4 6
  | .jge _ => .two 4 6
  | .jlt _ => .two 4 6
  | .jle _ => .two 4 6
  | .jeq _ => .two 4 6
  | .jne _ => .two 4 6
  | .jps _ => .two 4 6
  | .jns _ => .two 4 6
  | .jgts _ => .two 6 10
  | .jges _ => .two 6 10
  | .jlts _ => .two 6 10
  | .jles _ => .two 6 10
  | .jov _ => .two 6 10
  | .jnv _ => .two 6 10
  | .djnzR4 _ => .two 7 10
  | .djnzR5 _ => .two 7 10
  | .djnzPrL _ _ => .two 7 10
  | .djnzB p _ => .two (cyclesB p + 5) (cyclesB p + 8)
  | .jrnzDp _ => .two 7 10
  | .sj _ => .one 6
  | .jCadr _ => .one 7
  | .jInd p => .one (cyclesW p + 4)
  | .calCadr _ => .one 9
  | .calInd p => .one (cyclesW p + 5)
  | .scalCadr _ => .one 9
  | .acal _ _ => .one 7
  | .vcal _ => .one 10
  | .rt => .one 6
  | .fcal _ _ => .one 13
  | .fj _ _ => .one 11
  | .frt => .one 9
  | .rti => .two 12 14
  | .sc => .one 2
  | .rc => .one 2
  | .cplC => .one 2
  | .sdd => .one 2
  | .rdd => .one 2
  | .ei => .one 2
  | .di => .one 2
  | .extnd => .one 2
  | .nop => .one 2
  | .brk => .one 2
  | .mac _ _ => .one 4
  | .pfxWA _ => .one 2
  | .pfxWPr _ _ => .one 2
  | .pfxWEr _ _ => .one 2
  | .pfxBR _ _ => .one 2
  | .pfxWX1 _ => .one 4
  | .pfxBX1 _ => .one 4
  | .pfxWDpDec _ => .one 5
  | .pfxBDpDec _ => .one 5
  | .pfxWDp _ => .one 4
  | .pfxBDp _ => .one 4
  | .pfxWDpInc _ => .one 5
  | .pfxBDpInc _ => .one 5
  | .pfxWFix _ _ => .one 4
  | .pfxBFix _ _ => .one 4
  | .pfxWOff _ _ => .one 4
  | .pfxBOff _ _ => .one 4
  | .pfxWSfr _ _ => .one 4
  | .pfxBSfr _ _ => .one 4
  | .pfxWDir _ _ => .one 6
  | .pfxBDir _ _ => .one 6
  | .pfxWD16X1 _ _ => .one 6
  | .pfxBD16X1 _ _ => .one 6
  | .pfxWD16X2 _ _ => .one 6
  | .pfxBD16X2 _ _ => .one 6
  | .pfxWX1A _ => .one 6
  | .pfxBX1A _ => .one 6
  | .pfxWX1R0 _ => .one 6
  | .pfxBX1R0 _ => .one 6
  | .pfxWN7 _ _ _ => .one 6
  | .pfxBN7 _ _ _ => .one 6
  | .pfxBPswl _ => .one 2
  | .pfxBPswh _ => .one 2
  | .unassigned _ => .one 0

end Sys2Proof.Machine
end

