-- ==== Sys2Proof/Safety.lean ====
section
/-! DEFINITION. The terms claims are stated in: the invariant of the machine, a safe run, what an instruction's shape is, and
which registers, bits and bytes of memory a shape may change. -/

namespace Sys2Proof.Machine

/-- What every step keeps: both memories in canonical form, unimplemented bits of the segment registers 0 (R61), ROMWIN 0
while its latch is open (R63), the model small until it is set and permitted once it is (R66). -/
structure Inv (s : State) : Prop where
  dataWf : Memory.wf dataDefault s.data = true
  progWf : Memory.wf progDefault s.prog = true
  csrBits : s.csr &&& segMask s.dev.csrBits = s.csr
  tsrBits : s.tsr &&& segMask s.dev.tsrBits = s.tsr
  dsrBits : s.dsr &&& segMask s.dev.dsrBits = s.dsr
  romwinShut : s.romwinWritten = false → s.romwin = 0
  modelSmall : s.modelSet = false → s.model = .small
  modelPermitted : s.modelSet = true → s.model ∈ s.dev.modelsPermitted

/-- k steps from s end in t, each a next state. -/
def RunsTo (k : Nat) (s t : State) : Prop := Sys2Proof.core.run k s = .next t

/-- A run of k steps is safe when no step stops with a fault or a refusal. -/
def SafeFor (k : Nat) (s : State) : Prop := ∃ t, RunsTo k s t

/-! ## What stays the same -/

/-- The bits of a status word outside `ks` are the same in q as in p. -/
def SameBits (ks : List Nat) (p q : Word) : Prop := ∀ k, k ∉ ks → q.getLsbD k = p.getLsbD k

/-- Every register but A, PSW, SSP, CSR, PC and DD_FETCH, with program memory, the environment and the device, is the same in u
as in s. -/
structure KeptRest (s u : State) : Prop where
  lrb : u.lrb = s.lrb
  tsr : u.tsr = s.tsr
  dsr : u.dsr = s.dsr
  romwin : u.romwin = s.romwin
  romwinWritten : u.romwinWritten = s.romwinWritten
  model : u.model = s.model
  modelSet : u.modelSet = s.modelSet
  prog : u.prog = s.prog
  inputs : u.inputs = s.inputs
  dev : u.dev = s.dev

/-- Every register but A, PSW, PC and DD_FETCH is the same in u as in s. -/
structure Kept (s u : State) : Prop extends KeptRest s u where
  ssp : u.ssp = s.ssp
  csr : u.csr = s.csr

/-- Every byte of data memory outside `bs` reads in u as it does in s. -/
def SameCells (bs : List Nat) (s u : State) : Prop := ∀ a, a ∉ bs → u.cell a = s.cell a

/-- The state right after a reset of any kind (10_state.md R75, 70_reset_and_hazards.md R540), what the spec leaves undefined
apart. -/
structure IsReset (u : State) : Prop where
  a : u.a = 0
  c : Psw.c u.psw = false
  z : Psw.z u.psw = false
  hc : Psw.hc u.psw = false
  dd : Psw.dd u.psw = false
  s : Psw.s u.psw = false
  ov : Psw.ov u.psw = false
  scb : Psw.scb u.psw = 0
  mip : Psw.mip u.psw = Psw.mip u.dev.pswReset
  mie : Psw.mie u.psw = Psw.mie u.dev.pswReset
  mab : Psw.mab u.psw = Psw.mab u.dev.pswReset
  f1 : Psw.f1 u.psw = Psw.f1 u.dev.pswReset
  bcb : Psw.bcb u.psw = Psw.bcb u.dev.pswReset
  f0 : Psw.f0 u.psw = Psw.f0 u.dev.pswReset
  ssp : u.ssp = 0xFFFF
  csr : u.csr = 0
  tsr : u.tsr = 0
  dsr : u.dsr = 0
  romwin : u.romwin = 0
  romwinWritten : u.romwinWritten = false
  model : u.model = .small
  modelSet : u.modelSet = false
  ddFetch : u.ddFetch = false

/-! ## Memory that is there -/

/-- The pointing and local registers, 0:0200H to 0:09FFH, are data memory the device has. -/
def RegistersPresent (s : State) : Prop := ∀ a, 0x200 ≤ a → a < 0xA00 → inRanges s.dev.dataPresent a = true

/-- A word at 0:off is ordinary data memory: the device has both bytes, neither is an SFR, and no ROM window covers it. -/
def PlainWord (s : State) (off : Word) : Prop :=
  isSfr 0 off = false ∧ inRanges s.dev.dataPresent (key 0 (evenOff off)) = true
    ∧ inRanges s.dev.dataPresent (key 0 (evenOff off + 1)) = true ∧ s.throughWindow 0 off = false

/-- The two bytes of a word at seg:off (R83). -/
def wordBytes (seg : Byte) (off : Word) : List Nat := [key seg (evenOff off), key seg (evenOff off + 1)]

/-- The bytes of data memory a word store to a location reaches in state t (R136). -/
def Loc.bytesW (l : Loc) (t : State) : List Nat :=
  match l with
  | .acc | .psw _ => []
  | .phys p => wordBytes 0 p
  | .data off => wordBytes (t.physSeg off) off

/-- The byte of data memory a byte store to a location reaches in state t (R136). -/
def Loc.bytesB (l : Loc) (t : State) : List Nat :=
  match l with
  | .acc | .psw _ => []
  | .phys p => [key 0 p]
  | .data off => [key (t.physSeg off) off]

/-- Whether a store to a location goes to the SFR area, where it may change a register (R108). -/
def Loc.inSfr (l : Loc) (t : State) : Bool :=
  match l with
  | .acc | .psw _ => false
  | .phys p => isSfr 0 p
  | .data off => isSfr (t.physSeg off) off

/-- Whether a mode moves DP. -/
def Mode.movesDp (m : Mode) : Bool :=
  match m with
  | .dpDec | .dpInc => true
  | .x1 | .dp | .fix _ | .off _ | .sfr _ | .dir _ | .d16x1 _ | .d16x2 _ | .x1A | .x1R0 | .n7dp _ | .n7usp _ => false

/-- Whether locating a word operand moves DP. -/
def WOp.movesDp (p : WOp) : Bool :=
  match p with
  | .mem m => Mode.movesDp m
  | .acc | .er _ | .pr _ => false

/-- Whether locating a byte operand moves DP. -/
def BOp.movesDp (p : BOp) : Bool :=
  match p with
  | .mem m => Mode.movesDp m
  | .acc | .r _ | .pswl | .pswh => false

/-- Whether locating a source moves DP. -/
def Src.movesDp {w : Nat} (q : Src w) : Bool :=
  match q with
  | .mem m => Mode.movesDp m
  | .imm _ | .acc => false

/-- The two bytes of DP (R51). -/
def State.dpBytes (s : State) : List Nat := [key 0 (s.prAddr .dp), key 0 (s.prAddr .dp + 1)]

/-- Values pushed one after the other, each read after the pushes before it (R111, R243). -/
def pushReads : List (State → Res Word) → State → Res State
  | [], s => .ok s
  | value :: t, s => do
    let w ← value s
    let s ← push16 s w
    pushReads t s

/-! ## The shape of an instruction: its operation with its operands, whatever its encoding -/

/-- The bit operand of a position-direct bit instruction: a byte prefix's, or an SBA byte (R152). -/
inductive BitOperand where
  | pre (p : BOp)
  | sbafix (k : BitVec 6)
  | sbaoff (k : BitVec 6)
deriving DecidableEq, Repr

/-- The byte a bit operand names, and the state after its DP update. -/
def locBit (b : BitOperand) (s : State) : Res (Loc × State) :=
  match b with
  | .pre p => locB p s
  | .sbafix k => .ok (sbafixLoc k, s)
  | .sbaoff k => .ok (sbaoffLoc s k, s)

/-- Whether locating a bit operand moves DP. -/
def BitOperand.movesDp (b : BitOperand) : Bool :=
  match b with
  | .pre p => BOp.movesDp p
  | .sbafix _ | .sbaoff _ => false

/-- What an instruction does with its operands. -/
inductive Shape where
  /-- L. -/
  | loadW (p : WOp)
  /-- LB. -/
  | loadB (p : BOp)
  /-- L and CLR A with a constant. -/
  | loadImmW (v : Word)
  /-- LB and CLRB A with a constant. -/
  | loadImmB (v : Byte)
  /-- ST, MOV between locations. -/
  | moveW (dst src : WOp)
  /-- STB, MOVB between locations. -/
  | moveB (dst src : BOp)
  /-- MOV, CLR, FILL of a constant. -/
  | constW (p : WOp) (v : Word)
  /-- MOVB, CLRB, FILLB of a constant. -/
  | constB (p : BOp) (v : Byte)
  /-- XCHG. -/
  | exchW (p : WOp)
  /-- XCHGB. -/
  | exchB (p : BOp)
  /-- Word shifts and rotates by n. -/
  | shiftW (op : ShiftOp) (p : WOp) (n : Nat)
  /-- Byte shifts and rotates by n. -/
  | shiftB (op : ShiftOp) (p : BOp) (n : Nat)
  /-- INC, DEC. -/
  | incDecW (dec : Bool) (p : WOp)
  /-- INCB, DECB. -/
  | incDecB (dec : Bool) (p : BOp)
  /-- `op A,obj`; `c` marks class (c) of R135. -/
  | aluAW (c : Bool) (op : AluOp) (p : WOp)
  /-- `opB A,obj`. -/
  | aluAB (c : Bool) (op : AluOp) (p : BOp)
  /-- `op A,#N16`. -/
  | aluImmW (op : AluOp) (v : Word)
  /-- `opB A,#N8`. -/
  | aluImmB (op : AluOp) (v : Byte)
  /-- `op **,obj2`. -/
  | aluMW (op : AluOp) (p : WOp) (q : Src 16)
  /-- `opB *,obj2`. -/
  | aluMB (op : AluOp) (p : BOp) (q : Src 8)
  /-- LC (`cmp` false) and CMPC at base + the pointer, if any. -/
  | tableW (cmp : Bool) (p : Option WOp) (base : Word)
  /-- LCB and CMPCB. -/
  | tableB (cmp : Bool) (p : Option WOp) (base : Word)
  /-- SB (`v` true), RB, MAC. -/
  | bitSet (v : Bool) (b : BitOperand) (bit : Fin 8)
  /-- MB C, BAND, BANDN, BOR, BORN, BXOR. -/
  | bitCarry (op : CarryOp) (p : BOp) (bit : Fin 8)
  /-- `MB *.bit,C`. -/
  | bitFromC (p : BOp) (bit : Fin 8)
  /-- SBR (`v` true), RBR. -/
  | blockSet (v : Bool) (p : BOp)
  /-- TBR. -/
  | blockTest (p : BOp)
  /-- `MBR C,*`. -/
  | blockCarry (p : BOp)
  /-- `MBR *,C`. -/
  | blockFromC (p : BOp)
  /-- JBS (`want` true), JBR, JOV, JNV. -/
  | jumpBit (want : Bool) (b : BitOperand) (bit : Fin 8) (d : Byte)
  /-- JBSR (`want` true), JBRS. -/
  | jumpFlip (want : Bool) (p : BOp) (bit : Fin 8) (d : Byte)
  /-- TJZ (`zero` true), TJNZ. -/
  | testW (zero : Bool) (p : WOp) (d : Byte)
  /-- TJZB (`zero` true), TJNZB. -/
  | testB (zero : Bool) (p : BOp) (d : Byte)
  /-- The conditional jumps. -/
  | cond (cc : Cond) (d : Byte)
deriving DecidableEq, Repr

/-- The shape of an instruction; the others are stated one by one. -/
def shapeOf (i : Instr) : Option Shape :=
  match i with
  | .lAImm v => some (.loadImmW v)
  | .lAEr n => some (.loadW (.er n))
  | .lAPr n => some (.loadW (.pr n))
  | .lAX1 => some (.loadW (.mem .x1))
  | .lbAX1 => some (.loadB (.mem .x1))
  | .lADpDec => some (.loadW (.mem .dpDec))
  | .lbADpDec => some (.loadB (.mem .dpDec))
  | .lADp => some (.loadW (.mem .dp))
  | .lbADp => some (.loadB (.mem .dp))
  | .lADpInc => some (.loadW (.mem .dpInc))
  | .lbADpInc => some (.loadB (.mem .dpInc))
  | .lAFix a => some (.loadW (.mem (.fix a)))
  | .lbAFix a => some (.loadB (.mem (.fix a)))
  | .lAOff a => some (.loadW (.mem (.off a)))
  | .lbAOff a => some (.loadB (.mem (.off a)))
  | .lASfr a => some (.loadW (.mem (.sfr a)))
  | .lbASfr a => some (.loadB (.mem (.sfr a)))
  | .lADir w => some (.loadW (.mem (.dir w)))
  | .lbADir w => some (.loadB (.mem (.dir w)))
  | .lAD16X1 w => some (.loadW (.mem (.d16x1 w)))
  | .lbAD16X1 w => some (.loadB (.mem (.d16x1 w)))
  | .lAN7 b n => some (.loadW (.mem (n7Mode b n)))
  | .lbAN7 b n => some (.loadB (.mem (n7Mode b n)))
  | .lbAImm v => some (.loadImmB v)
  | .lbAR n => some (.loadB (.r n))
  | .stAEr n => some (.moveW (.er n) .acc)
  | .stAPr n => some (.moveW (.pr n) .acc)
  | .stbAR n => some (.moveB (.r n) .acc)
  | .stAX1 => some (.moveW (.mem .x1) .acc)
  | .stbAX1 => some (.moveB (.mem .x1) .acc)
  | .stADpDec => some (.moveW (.mem .dpDec) .acc)
  | .stbADpDec => some (.moveB (.mem .dpDec) .acc)
  | .stADp => some (.moveW (.mem .dp) .acc)
  | .stbADp => some (.moveB (.mem .dp) .acc)
  | .stADpInc => some (.moveW (.mem .dpInc) .acc)
  | .stbADpInc => some (.moveB (.mem .dpInc) .acc)
  | .stAFix a => some (.moveW (.mem (.fix a)) .acc)
  | .stbAFix a => some (.moveB (.mem (.fix a)) .acc)
  | .stAOff a => some (.moveW (.mem (.off a)) .acc)
  | .stbAOff a => some (.moveB (.mem (.off a)) .acc)
  | .stASfr a => some (.moveW (.mem (.sfr a)) .acc)
  | .stbASfr a => some (.moveB (.mem (.sfr a)) .acc)
  | .stADir w => some (.moveW (.mem (.dir w)) .acc)
  | .stbADir w => some (.moveB (.mem (.dir w)) .acc)
  | .stAD16X1 w => some (.moveW (.mem (.d16x1 w)) .acc)
  | .stbAD16X1 w => some (.moveB (.mem (.d16x1 w)) .acc)
  | .stAN7 b n => some (.moveW (.mem (n7Mode b n)) .acc)
  | .stbAN7 b n => some (.moveB (.mem (n7Mode b n)) .acc)
  | .stAD16X2 w => some (.moveW (.mem (.d16x2 w)) .acc)
  | .stbAD16X2 w => some (.moveB (.mem (.d16x2 w)) .acc)
  | .movPrImm n v => some (.constW (.pr n) v)
  | .movErImm n v => some (.constW (.er n) v)
  | .movSfrImm a v => some (.constW (.mem (.sfr a)) v)
  | .movOffImm a v => some (.constW (.mem (.off a)) v)
  | .movbRImm n v => some (.constB (.r n) v)
  | .movbSfrImm a v => some (.constB (.mem (.sfr a)) v)
  | .movbOffImm a v => some (.constB (.mem (.off a)) v)
  | .clrA => some (.loadImmW 0)
  | .clrbA => some (.loadImmB 0)
  | .movAW p => some (.moveW .acc p)
  | .movErW n p => some (.moveW (.er n) p)
  | .movPrW n p => some (.moveW (.pr n) p)
  | .movFixW a p => some (.moveW (.mem (.fix a)) p)
  | .movOffW a p => some (.moveW (.mem (.off a)) p)
  | .movX1W p => some (.moveW (.mem .x1) p)
  | .movDpDecW p => some (.moveW (.mem .dpDec) p)
  | .movDpW p => some (.moveW (.mem .dp) p)
  | .movDpIncW p => some (.moveW (.mem .dpInc) p)
  | .movSfrW a p => some (.moveW (.mem (.sfr a)) p)
  | .movD16X1W w p => some (.moveW (.mem (.d16x1 w)) p)
  | .movD16X2W w p => some (.moveW (.mem (.d16x2 w)) p)
  | .movN7W b n p => some (.moveW (.mem (n7Mode b n)) p)
  | .movDirW w p => some (.moveW (.mem (.dir w)) p)
  | .movX1AW p => some (.moveW (.mem .x1A) p)
  | .movX1R0W p => some (.moveW (.mem .x1R0) p)
  | .movWA p => some (.moveW p .acc)
  | .movWImm p v => some (.constW p v)
  | .movbAB p => some (.moveB .acc p)
  | .movbRB n p => some (.moveB (.r n) p)
  | .movbFixB a p => some (.moveB (.mem (.fix a)) p)
  | .movbOffB a p => some (.moveB (.mem (.off a)) p)
  | .movbX1B p => some (.moveB (.mem .x1) p)
  | .movbDpDecB p => some (.moveB (.mem .dpDec) p)
  | .movbDpB p => some (.moveB (.mem .dp) p)
  | .movbDpIncB p => some (.moveB (.mem .dpInc) p)
  | .movbSfrB a p => some (.moveB (.mem (.sfr a)) p)
  | .movbD16X1B w p => some (.moveB (.mem (.d16x1 w)) p)
  | .movbD16X2B w p => some (.moveB (.mem (.d16x2 w)) p)
  | .movbN7B b n p => some (.moveB (.mem (n7Mode b n)) p)
  | .movbDirB w p => some (.moveB (.mem (.dir w)) p)
  | .movbX1AB p => some (.moveB (.mem .x1A) p)
  | .movbX1R0B p => some (.moveB (.mem .x1R0) p)
  | .movbBA p => some (.moveB p .acc)
  | .movbBImm p v => some (.constB p v)
  | .clrW p => some (.constW p 0)
  | .clrbB p => some (.constB p 0)
  | .fillA => some (.constW .acc 0xFFFF)
  | .fillbA => some (.constB .acc 0xFF)
  | .fillW p => some (.constW p 0xFFFF)
  | .fillbB p => some (.constB p 0xFF)
  | .xchgAW p => some (.exchW p)
  | .xchgbAB p => some (.exchB p)
  | .sllA => some (.shiftW .sll .acc 1)
  | .sllbA => some (.shiftB .sll .acc 1)
  | .sllAWidth k => some (.shiftW .sll .acc (k.val + 1))
  | .sllbAWidth k => some (.shiftB .sll .acc (k.val + 1))
  | .sllWWidth p k => some (.shiftW .sll p (k.val + 1))
  | .sllbBWidth p k => some (.shiftB .sll p (k.val + 1))
  | .srlA => some (.shiftW .srl .acc 1)
  | .srlbA => some (.shiftB .srl .acc 1)
  | .srlAWidth k => some (.shiftW .srl .acc (k.val + 1))
  | .srlbAWidth k => some (.shiftB .srl .acc (k.val + 1))
  | .srlWWidth p k => some (.shiftW .srl p (k.val + 1))
  | .srlbBWidth p k => some (.shiftB .srl p (k.val + 1))
  | .sraAWidth k => some (.shiftW .sra .acc (k.val + 1))
  | .srabAWidth k => some (.shiftB .sra .acc (k.val + 1))
  | .sraWWidth p k => some (.shiftW .sra p (k.val + 1))
  | .srabBWidth p k => some (.shiftB .sra p (k.val + 1))
  | .rolA => some (.shiftW .rol .acc 1)
  | .rolbA => some (.shiftB .rol .acc 1)
  | .rolAWidth k => some (.shiftW .rol .acc (k.val + 1))
  | .rolbAWidth k => some (.shiftB .rol .acc (k.val + 1))
  | .rolWWidth p k => some (.shiftW .rol p (k.val + 1))
  | .rolbBWidth p k => some (.shiftB .rol p (k.val + 1))
  | .rorA => some (.shiftW .ror .acc 1)
  | .rorbA => some (.shiftB .ror .acc 1)
  | .rorAWidth k => some (.shiftW .ror .acc (k.val + 1))
  | .rorbAWidth k => some (.shiftB .ror .acc (k.val + 1))
  | .rorWWidth p k => some (.shiftW .ror p (k.val + 1))
  | .rorbBWidth p k => some (.shiftB .ror p (k.val + 1))
  | .incA => some (.incDecW false .acc)
  | .incbA => some (.incDecB false .acc)
  | .incPr n => some (.incDecW false (.pr n))
  | .incbR n => some (.incDecB false (.r (R8.low n)))
  | .incW p => some (.incDecW false p)
  | .incbB p => some (.incDecB false p)
  | .decA => some (.incDecW true .acc)
  | .decbA => some (.incDecB true .acc)
  | .decPr n => some (.incDecW true (.pr n))
  | .decbR n => some (.incDecB true (.r (R8.low n)))
  | .decW p => some (.incDecW true p)
  | .decbB p => some (.incDecB true p)
  | .addAEr n => some (.aluAW false .add (.er n))
  | .addAPr n => some (.aluAW false .add (.pr n))
  | .addbAR n => some (.aluAB false .add (.r n))
  | .addAFix a => some (.aluAW false .add (.mem (.fix a)))
  | .addbAFix a => some (.aluAB false .add (.mem (.fix a)))
  | .addAOff a => some (.aluAW false .add (.mem (.off a)))
  | .addbAOff a => some (.aluAB false .add (.mem (.off a)))
  | .addAImm v => some (.aluImmW .add v)
  | .addbAImm v => some (.aluImmB .add v)
  | .addAW p => some (.aluAW true .add p)
  | .addbAB p => some (.aluAB true .add p)
  | .addWFix p a => some (.aluMW .add p (.mem (.fix a)))
  | .addbBFix p a => some (.aluMB .add p (.mem (.fix a)))
  | .addWOff p a => some (.aluMW .add p (.mem (.off a)))
  | .addbBOff p a => some (.aluMB .add p (.mem (.off a)))
  | .addWSfr p a => some (.aluMW .add p (.mem (.sfr a)))
  | .addbBSfr p a => some (.aluMB .add p (.mem (.sfr a)))
  | .addWImm p v => some (.aluMW .add p (.imm v))
  | .addbBImm p v => some (.aluMB .add p (.imm v))
  | .addWA p => some (.aluMW .add p .acc)
  | .addbBA p => some (.aluMB .add p .acc)
  | .adcAImm v => some (.aluImmW .adc v)
  | .adcbAImm v => some (.aluImmB .adc v)
  | .adcAW p => some (.aluAW true .adc p)
  | .adcbAB p => some (.aluAB true .adc p)
  | .adcWFix p a => some (.aluMW .adc p (.mem (.fix a)))
  | .adcbBFix p a => some (.aluMB .adc p (.mem (.fix a)))
  | .adcWOff p a => some (.aluMW .adc p (.mem (.off a)))
  | .adcbBOff p a => some (.aluMB .adc p (.mem (.off a)))
  | .adcWSfr p a => some (.aluMW .adc p (.mem (.sfr a)))
  | .adcbBSfr p a => some (.aluMB .adc p (.mem (.sfr a)))
  | .adcWImm p v => some (.aluMW .adc p (.imm v))
  | .adcbBImm p v => some (.aluMB .adc p (.imm v))
  | .adcWA p => some (.aluMW .adc p .acc)
  | .adcbBA p => some (.aluMB .adc p .acc)
  | .subAEr n => some (.aluAW false .sub (.er n))
  | .subAPr n => some (.aluAW false .sub (.pr n))
  | .subbAR n => some (.aluAB false .sub (.r n))
  | .subAFix a => some (.aluAW false .sub (.mem (.fix a)))
  | .subbAFix a => some (.aluAB false .sub (.mem (.fix a)))
  | .subAOff a => some (.aluAW false .sub (.mem (.off a)))
  | .subbAOff a => some (.aluAB false .sub (.mem (.off a)))
  | .subAImm v => some (.aluImmW .sub v)
  | .subbAImm v => some (.aluImmB .sub v)
  | .subAW p => some (.aluAW true .sub p)
  | .subbAB p => some (.aluAB true .sub p)
  | .subWFix p a => some (.aluMW .sub p (.mem (.fix a)))
  | .subbBFix p a => some (.aluMB .sub p (.mem (.fix a)))
  | .subWOff p a => some (.aluMW .sub p (.mem (.off a)))
  | .subbBOff p a => some (.aluMB .sub p (.mem (.off a)))
  | .subWSfr p a => some (.aluMW .sub p (.mem (.sfr a)))
  | .subbBSfr p a => some (.aluMB .sub p (.mem (.sfr a)))
  | .subWImm p v => some (.aluMW .sub p (.imm v))
  | .subbBImm p v => some (.aluMB .sub p (.imm v))
  | .subWA p => some (.aluMW .sub p .acc)
  | .subbBA p => some (.aluMB .sub p .acc)
  | .sbcAImm v => some (.aluImmW .sbc v)
  | .sbcbAImm v => some (.aluImmB .sbc v)
  | .sbcAW p => some (.aluAW true .sbc p)
  | .sbcbAB p => some (.aluAB true .sbc p)
  | .sbcWFix p a => some (.aluMW .sbc p (.mem (.fix a)))
  | .sbcbBFix p a => some (.aluMB .sbc p (.mem (.fix a)))
  | .sbcWOff p a => some (.aluMW .sbc p (.mem (.off a)))
  | .sbcbBOff p a => some (.aluMB .sbc p (.mem (.off a)))
  | .sbcWSfr p a => some (.aluMW .sbc p (.mem (.sfr a)))
  | .sbcbBSfr p a => some (.aluMB .sbc p (.mem (.sfr a)))
  | .sbcWImm p v => some (.aluMW .sbc p (.imm v))
  | .sbcbBImm p v => some (.aluMB .sbc p (.imm v))
  | .sbcWA p => some (.aluMW .sbc p .acc)
  | .sbcbBA p => some (.aluMB .sbc p .acc)
  | .cmpAEr n => some (.aluAW false .cmp (.er n))
  | .cmpAPr n => some (.aluAW false .cmp (.pr n))
  | .cmpbAR n => some (.aluAB false .cmp (.r n))
  | .cmpAFix a => some (.aluAW false .cmp (.mem (.fix a)))
  | .cmpbAFix a => some (.aluAB false .cmp (.mem (.fix a)))
  | .cmpAOff a => some (.aluAW false .cmp (.mem (.off a)))
  | .cmpbAOff a => some (.aluAB false .cmp (.mem (.off a)))
  | .cmpAImm v => some (.aluImmW .cmp v)
  | .cmpbAImm v => some (.aluImmB .cmp v)
  | .cmpAW p => some (.aluAW true .cmp p)
  | .cmpbAB p => some (.aluAB true .cmp p)
  | .cmpWFix p a => some (.aluMW .cmp p (.mem (.fix a)))
  | .cmpbBFix p a => some (.aluMB .cmp p (.mem (.fix a)))
  | .cmpWOff p a => some (.aluMW .cmp p (.mem (.off a)))
  | .cmpbBOff p a => some (.aluMB .cmp p (.mem (.off a)))
  | .cmpWSfr p a => some (.aluMW .cmp p (.mem (.sfr a)))
  | .cmpbBSfr p a => some (.aluMB .cmp p (.mem (.sfr a)))
  | .cmpWImm p v => some (.aluMW .cmp p (.imm v))
  | .cmpbBImm p v => some (.aluMB .cmp p (.imm v))
  | .cmpWA p => some (.aluMW .cmp p .acc)
  | .cmpbBA p => some (.aluMB .cmp p .acc)
  | .cmpFixImm a v => some (.aluMW .cmp (.mem (.fix a)) (.imm v))
  | .cmpOffImm a v => some (.aluMW .cmp (.mem (.off a)) (.imm v))
  | .cmpbFixImm a v => some (.aluMB .cmp (.mem (.fix a)) (.imm v))
  | .cmpbOffImm a v => some (.aluMB .cmp (.mem (.off a)) (.imm v))
  | .andAOff a => some (.aluAW false .and (.mem (.off a)))
  | .andbAOff a => some (.aluAB false .and (.mem (.off a)))
  | .andAImm v => some (.aluImmW .and v)
  | .andbAImm v => some (.aluImmB .and v)
  | .andAW p => some (.aluAW true .and p)
  | .andbAB p => some (.aluAB true .and p)
  | .andWFix p a => some (.aluMW .and p (.mem (.fix a)))
  | .andbBFix p a => some (.aluMB .and p (.mem (.fix a)))
  | .andWOff p a => some (.aluMW .and p (.mem (.off a)))
  | .andbBOff p a => some (.aluMB .and p (.mem (.off a)))
  | .andWSfr p a => some (.aluMW .and p (.mem (.sfr a)))
  | .andbBSfr p a => some (.aluMB .and p (.mem (.sfr a)))
  | .andWImm p v => some (.aluMW .and p (.imm v))
  | .andbBImm p v => some (.aluMB .and p (.imm v))
  | .andWA p => some (.aluMW .and p .acc)
  | .andbBA p => some (.aluMB .and p .acc)
  | .orAOff a => some (.aluAW false .or (.mem (.off a)))
  | .orbAOff a => some (.aluAB false .or (.mem (.off a)))
  | .orAImm v => some (.aluImmW .or v)
  | .orbAImm v => some (.aluImmB .or v)
  | .orAW p => some (.aluAW true .or p)
  | .orbAB p => some (.aluAB true .or p)
  | .orWFix p a => some (.aluMW .or p (.mem (.fix a)))
  | .orbBFix p a => some (.aluMB .or p (.mem (.fix a)))
  | .orWOff p a => some (.aluMW .or p (.mem (.off a)))
  | .orbBOff p a => some (.aluMB .or p (.mem (.off a)))
  | .orWSfr p a => some (.aluMW .or p (.mem (.sfr a)))
  | .orbBSfr p a => some (.aluMB .or p (.mem (.sfr a)))
  | .orWImm p v => some (.aluMW .or p (.imm v))
  | .orbBImm p v => some (.aluMB .or p (.imm v))
  | .orWA p => some (.aluMW .or p .acc)
  | .orbBA p => some (.aluMB .or p .acc)
  | .xorAOff a => some (.aluAW false .xor (.mem (.off a)))
  | .xorbAOff a => some (.aluAB false .xor (.mem (.off a)))
  | .xorAImm v => some (.aluImmW .xor v)
  | .xorbAImm v => some (.aluImmB .xor v)
  | .xorAW p => some (.aluAW true .xor p)
  | .xorbAB p => some (.aluAB true .xor p)
  | .xorWFix p a => some (.aluMW .xor p (.mem (.fix a)))
  | .xorbBFix p a => some (.aluMB .xor p (.mem (.fix a)))
  | .xorWOff p a => some (.aluMW .xor p (.mem (.off a)))
  | .xorbBOff p a => some (.aluMB .xor p (.mem (.off a)))
  | .xorWSfr p a => some (.aluMW .xor p (.mem (.sfr a)))
  | .xorbBSfr p a => some (.aluMB .xor p (.mem (.sfr a)))
  | .xorWImm p v => some (.aluMW .xor p (.imm v))
  | .xorbBImm p v => some (.aluMB .xor p (.imm v))
  | .xorWA p => some (.aluMW .xor p .acc)
  | .xorbBA p => some (.aluMB .xor p .acc)
  | .lcAInd p => some (.tableW false (some p) 0)
  | .lcAT16 p w => some (.tableW false (some p) w)
  | .lcATadr w => some (.tableW false none w)
  | .lcbAInd p => some (.tableB false (some p) 0)
  | .lcbAT16 p w => some (.tableB false (some p) w)
  | .lcbATadr w => some (.tableB false none w)
  | .cmpcAInd p => some (.tableW true (some p) 0)
  | .cmpcAT16 p w => some (.tableW true (some p) w)
  | .cmpcATadr w => some (.tableW true none w)
  | .cmpcbAInd p => some (.tableB true (some p) 0)
  | .cmpcbAT16 p w => some (.tableB true (some p) w)
  | .cmpcbATadr w => some (.tableB true none w)
  | .rbBit p bit => some (.bitSet false (.pre p) bit)
  | .sbBit p bit => some (.bitSet true (.pre p) bit)
  | .mbCBit p bit => some (.bitCarry .move p bit)
  | .mbBitC p bit => some (.bitFromC p bit)
  | .bandCBit p bit => some (.bitCarry .and p bit)
  | .bandnCBit p bit => some (.bitCarry .andn p bit)
  | .borCBit p bit => some (.bitCarry .or p bit)
  | .bornCBit p bit => some (.bitCarry .orn p bit)
  | .bxorCBit p bit => some (.bitCarry .xor p bit)
  | .sbSbafix bit k => some (.bitSet true (.sbafix k) bit)
  | .rbSbafix bit k => some (.bitSet false (.sbafix k) bit)
  | .sbSbaoff bit k => some (.bitSet true (.sbaoff k) bit)
  | .rbSbaoff bit k => some (.bitSet false (.sbaoff k) bit)
  | .sbrB p => some (.blockSet true p)
  | .rbrB p => some (.blockSet false p)
  | .tbrB p => some (.blockTest p)
  | .mbrCB p => some (.blockCarry p)
  | .mbrBC p => some (.blockFromC p)
  | .jbsBit p bit d => some (.jumpBit true (.pre p) bit d)
  | .jbsSbafix bit k d => some (.jumpBit true (.sbafix k) bit d)
  | .jbsSbaoff bit k d => some (.jumpBit true (.sbaoff k) bit d)
  | .jbrBit p bit d => some (.jumpBit false (.pre p) bit d)
  | .jbrSbafix bit k d => some (.jumpBit false (.sbafix k) bit d)
  | .jbrSbaoff bit k d => some (.jumpBit false (.sbaoff k) bit d)
  | .jbsrBit p bit d => some (.jumpFlip true p bit d)
  | .jbrsBit p bit d => some (.jumpFlip false p bit d)
  | .tjzA d => some (.testW true .acc d)
  | .tjzW p d => some (.testW true p d)
  | .tjnzA d => some (.testW false .acc d)
  | .tjnzW p d => some (.testW false p d)
  | .tjzbA d => some (.testB true .acc d)
  | .tjzbB p d => some (.testB true p d)
  | .tjnzbA d => some (.testB false .acc d)
  | .tjnzbB p d => some (.testB false p d)
  | .jgt d => some (.cond .gt d)
  | .jge d => some (.cond .ge d)
  | .jlt d => some (.cond .lt d)
  | .jle d => some (.cond .le d)
  | .jeq d => some (.cond .eq d)
  | .jne d => some (.cond .ne d)
  | .jps d => some (.cond .ps d)
  | .jns d => some (.cond .ns d)
  | .jgts d => some (.cond .gts d)
  | .jges d => some (.cond .ges d)
  | .jlts d => some (.cond .lts d)
  | .jles d => some (.cond .les d)
  | .jov d => some (.jumpBit true (.pre .pswh) 1 d)
  | .jnv d => some (.jumpBit false (.pre .pswh) 1 d)
  | .mac a bit => some (.bitSet true (.pre (.mem (.sfr a))) bit)
  | .swap | .pushsA | .pushs .. | .pops .. | .negA | .negbA | .mulW .. | .mulbB .. | .sqrA | .sqrbA | .divW ..
  | .divbB .. | .divqW .. | .djnzR4 .. | .djnzR5 .. | .djnzPrL .. | .djnzB .. | .jrnzDp .. | .sj .. | .jCadr ..
  | .jInd .. | .calCadr .. | .calInd .. | .scalCadr .. | .acal .. | .vcal .. | .rt | .fcal .. | .fj .. | .frt | .rti
  | .sc | .rc | .cplC | .sdd | .rdd | .ei | .di | .extnd | .nop | .brk | .pfxWA .. | .pfxWPr .. | .pfxWEr ..
  | .pfxBR .. | .pfxWX1 .. | .pfxBX1 .. | .pfxWDpDec .. | .pfxBDpDec .. | .pfxWDp .. | .pfxBDp .. | .pfxWDpInc ..
  | .pfxBDpInc .. | .pfxWFix .. | .pfxBFix .. | .pfxWOff .. | .pfxBOff .. | .pfxWSfr .. | .pfxBSfr .. | .pfxWDir ..
  | .pfxBDir .. | .pfxWD16X1 .. | .pfxBD16X1 .. | .pfxWD16X2 .. | .pfxBD16X2 .. | .pfxWX1A .. | .pfxBX1A ..
  | .pfxWX1R0 .. | .pfxBX1R0 .. | .pfxWN7 .. | .pfxBN7 .. | .pfxBPswl .. | .pfxBPswh .. | .unassigned .. => none

/-! ## What a shape may change -/

/-- The flags of an arithmetic operation, C, Z, HC, S, OV, or of a logical one, Z and S, as bits of PSW (R36). -/
def AluOp.flags (op : AluOp) : List Nat :=
  match op with
  | .add | .adc | .sub | .sbc | .cmp => [15, 14, 13, 11, 9]
  | .and | .or | .xor => [14, 11]

/-- The bits of PSW a shape's flags stand in (R36). -/
def Shape.flags (sh : Shape) : List Nat :=
  match sh with
  | .loadW _ | .loadB _ | .loadImmW _ | .loadImmB _ => [14, 12]
  | .moveW _ _ | .moveB _ _ | .constW _ _ | .constB _ _ | .exchW _ | .exchB _ => []
  | .shiftW _ _ _ | .shiftB _ _ _ => [15]
  | .incDecW _ _ | .incDecB _ _ => [14, 13, 11, 9]
  | .aluAW _ op _ | .aluAB _ op _ | .aluImmW op _ | .aluImmB op _ | .aluMW op _ _ | .aluMB op _ _ => AluOp.flags op
  | .tableW cmp _ _ | .tableB cmp _ _ => if cmp then [15, 14, 13, 11, 9] else [14]
  | .bitSet _ _ _ | .blockSet _ _ | .blockTest _ => [14]
  | .bitCarry _ _ _ | .blockCarry _ => [15]
  | .bitFromC _ _ | .blockFromC _ | .jumpBit _ _ _ _ | .jumpFlip _ _ _ _ | .testW _ _ _ | .testB _ _ _ | .cond _ _ => []

/-- Whether a shape moves DP on the way to its operands. -/
def Shape.movesDp (sh : Shape) : Bool :=
  match sh with
  | .loadW p | .constW p _ | .exchW p | .shiftW _ p _ | .incDecW _ p | .aluAW _ _ p | .testW _ p _ => WOp.movesDp p
  | .loadB p | .constB p _ | .exchB p | .shiftB _ p _ | .incDecB _ p | .aluAB _ _ p | .testB _ p _ | .bitCarry _ p _
  | .bitFromC p _ | .blockSet _ p | .blockTest p | .blockCarry p | .blockFromC p | .jumpFlip _ p _ _ => BOp.movesDp p
  | .moveW d p => WOp.movesDp d || WOp.movesDp p
  | .moveB d p => BOp.movesDp d || BOp.movesDp p
  | .aluMW _ p q => WOp.movesDp p || Src.movesDp q
  | .aluMB _ p q => BOp.movesDp p || Src.movesDp q
  | .tableW _ p _ | .tableB _ p _ => p.any WOp.movesDp
  | .bitSet _ b _ | .jumpBit _ b _ _ => BitOperand.movesDp b
  | .loadImmW _ | .loadImmB _ | .aluImmW _ _ | .aluImmB _ _ | .cond _ _ => false

/-- Where a shape stores its result, with the state its store is made in and whether it stores a word; `none` for a shape that
writes A, the flags or PC alone. A stop is the operand's own. -/
def Shape.dest (sh : Shape) (s : State) : Option (Bool × Res (Loc × State)) :=
  match sh with
  | .constW p _ | .shiftW _ p _ | .incDecW _ p | .exchW p => some (true, locW p s)
  | .constB p _ | .shiftB _ p _ | .incDecB _ p | .exchB p | .bitFromC p _ | .jumpFlip _ p _ _ => some (false, locB p s)
  | .moveW d p => some (true, do let (_, t) ← locW p s; locW d t)
  | .moveB d p => some (false, do let (_, t) ← locB p s; locB d t)
  | .aluMW op p q =>
    if op.writes then some (true, do let (l, t) ← locW p s; let (_, t) ← srcLocW q t; return (l, t)) else none
  | .aluMB op p q =>
    if op.writes then some (false, do let (l, t) ← locB p s; let (_, t) ← srcLocB q t; return (l, t)) else none
  | .bitSet _ b _ => some (false, locBit b s)
  | .blockSet _ p | .blockFromC p =>
    some (false, do let (l, t) ← locB p s; return (upLoc l ((loByte t.a).toNat / 8), t))
  | .loadW _ | .loadB _ | .loadImmW _ | .loadImmB _ | .aluAW _ _ _ | .aluAB _ _ _ | .aluImmW _ _ | .aluImmB _ _
  | .tableW _ _ _ | .tableB _ _ _ | .bitCarry _ _ _ | .blockTest _ | .blockCarry _ | .jumpBit _ _ _ _ | .testW _ _ _
  | .testB _ _ _ | .cond _ _ => none

/-- The bytes of data memory a shape stores to. -/
def Shape.stores (sh : Shape) (s : State) : List Nat :=
  match sh.dest s with
  | some (true, .ok (l, t)) => l.bytesW t
  | some (false, .ok (l, t)) => l.bytesB t
  | some (_, .error _) | none => []

/-- Whether a shape's result goes to the SFR area. -/
def Shape.toSfr (sh : Shape) (s : State) : Bool :=
  match sh.dest s with
  | some (_, .ok (l, t)) => l.inSfr t
  | some (_, .error _) | none => false

/-- Whether a shape's result goes to a byte of PSW through a PSW prefix. -/
def Shape.toPsw (sh : Shape) (s : State) : Bool :=
  match sh.dest s with
  | some (_, .ok (.psw _, _)) => true
  | some (_, .ok (.acc, _)) | some (_, .ok (.phys _, _)) | some (_, .ok (.data _, _)) | some (_, .error _) | none => false

/-- How much of A a shape may write: nothing, AL alone, or all of it. -/
inductive WritesA where
  | no | low | all
deriving DecidableEq, Repr

/-- How much of A a shape may write. -/
def Shape.writesA (sh : Shape) (s : State) : WritesA :=
  match sh with
  | .loadW _ | .loadImmW _ | .exchW _ => .all
  | .loadB _ | .loadImmB _ | .exchB _ => .low
  | .aluAW _ op _ | .aluImmW op _ => if op.writes then .all else .no
  | .aluAB _ op _ | .aluImmB op _ => if op.writes then .low else .no
  | .tableW cmp _ _ => if cmp then .no else .all
  | .tableB cmp _ _ => if cmp then .no else .low
  | .moveW _ _ | .moveB _ _ | .constW _ _ | .constB _ _ | .shiftW _ _ _ | .shiftB _ _ _ | .incDecW _ _ | .incDecB _ _
  | .aluMW _ _ _ | .aluMB _ _ _ | .bitSet _ _ _ | .bitCarry _ _ _ | .bitFromC _ _ | .blockSet _ _ | .blockTest _
  | .blockCarry _ | .blockFromC _ | .jumpBit _ _ _ _ | .jumpFlip _ _ _ _ | .testW _ _ _ | .testB _ _ _ | .cond _ _ =>
    match sh.dest s with
    | some (true, .ok (.acc, _)) => .all
    | some (false, .ok (.acc, _)) => .low
    | some (_, .ok (.psw _, _)) | some (_, .ok (.phys _, _)) | some (_, .ok (.data _, _)) | some (_, .error _) | none => .no

/-- Whether a shape may leave another PC than NextPC. -/
def Shape.jumps (sh : Shape) : Bool :=
  match sh with
  | .jumpBit _ _ _ _ | .jumpFlip _ _ _ _ | .testW _ _ _ | .testB _ _ _ | .cond _ _ => true
  | .loadW _ | .loadB _ | .loadImmW _ | .loadImmB _ | .moveW _ _ | .moveB _ _ | .constW _ _ | .constB _ _ | .exchW _
  | .exchB _ | .shiftW _ _ _ | .shiftB _ _ _ | .incDecW _ _ | .incDecB _ _ | .aluAW _ _ _ | .aluAB _ _ _ | .aluImmW _ _
  | .aluImmB _ _ | .aluMW _ _ _ | .aluMB _ _ _ | .tableW _ _ _ | .tableB _ _ _ | .bitSet _ _ _ | .bitCarry _ _ _
  | .bitFromC _ _ | .blockSet _ _ | .blockTest _ | .blockCarry _ | .blockFromC _ => false

end Sys2Proof.Machine
end

