-- ==== Sys2Proof/Certificates/Slice0/Obligations.lean ====
section
/-! DEFINITION. The statements for the provers. Hypotheses of the form `locW p s = .ok (l, t)` say that an operand can be
located (its pointer is readable), `rdW l t = .ok v` that it can be read, `wrW l v t = .ok u` that it can be written; the
statements about operands, memory and the stack say when that is so and what t and u are. -/

open Sys2Proof Sys2Proof.Machine

/-! ## Decoding and encoding -/

/-- Decoding undoes encoding, for every well-formed instruction with every operand, whatever bytes follow: the instruction read
is the instruction written (its core instruction for the five aliases), and its length is that of its bytes. The word and
byte instructions of one code are told apart by DD_FETCH; PUSHS A directly before 08 or 09 is not expressible (R163, D21, log 24). -/
def Obligations.DecodeUndoesEncode : Prop :=
  ∀ (dev : Device) (dd : Bool) (i : Instr) (rest : List Byte), WellFormed dev i = true →
    (∀ b, ddNeed i = some b → dd = b) → followOk i rest = true →
    decode dev dd (encode dev i ++ rest) = .ok (canon i, (encode dev i).length)

/-- An instruction is 1 to 6 bytes (R130), all of them among the bytes given, and six bytes are never too few. -/
def Obligations.InstructionIsOneToSixBytes : Prop :=
  ∀ (dev : Device) (dd : Bool) (bytes : List Byte),
    (∀ i n, decode dev dd bytes = .ok (i, n) → 1 ≤ n ∧ n ≤ 6 ∧ n ≤ bytes.length) ∧
    (6 ≤ bytes.length → decode dev dd bytes ≠ .error .truncated)

/-- One written-out word of each family decodes to its instruction. -/
def Obligations.FamilyWordsDecode : Prop :=
  decode Device.default true [0xF8, 0x34, 0x12] = .ok (.lAImm 0x1234, 3) ∧
  decode Device.default false [0x07, 0x00] = .ok (.pushsA, 1) ∧
  decode Device.default true [0x64, 0x8F] = .ok (.sllWWidth (.er .er0) 3, 2) ∧
  decode Device.default true [0x42] = .ok (.incPr .dp, 1) ∧
  decode Device.default true [0xA7, 0x00, 0x30, 0xA0, 0x20] = .ok (.addWFix (.mem (.dir 0x3000)) 0x20, 5) ∧
  decode Device.default false [0x9A, 0xB3, 0x05] = .ok (.andbBImm .pswh 0x05, 3) ∧
  decode Device.default false [0x60, 0xB7, 0x80, 0x01] = .ok (.lcATadr 0x0180, 4) ∧
  decode Device.default false [0x5F, 0x05] = .ok (.sbSbafix 7 5, 2) ∧
  decode Device.default false [0x60, 0xFA, 0x00, 0x30, 0x20] = .ok (.fj 0x20 0x3000, 5) ∧
  decode Device.default false [0xFC] = .ok (.extnd, 1) ∧
  decode Device.default false [0x64, 0x6F] = .ok (.pfxWEr .er0 0x6F, 2)

/-! ## The step -/

/-- With nothing offered by the environment, or nothing it offers taken, a step runs the instruction decoded under DD_FETCH from
the bytes at CodeSeg():PC, with PC already past it. -/
def Obligations.StepRunsDecodedInstruction : Prop :=
  ∀ (s : State) (i : Instr) (len : Nat), decode s.dev s.ddFetch s.window = .ok (i, len) →
    (s.inputs = [] → step s = exec i (s.setPc (s.pc + BitVec.ofNat 16 len))) ∧
    (∀ slot rest, s.inputs = slot :: rest → pickEvent (s.setInputs rest) slot = none →
      step s = exec i ((s.setInputs rest).setPc (s.pc + BitVec.ofNat 16 len)))

/-- Every step keeps the invariant: both memories in canonical form, unimplemented segment-register bits 0, ROMWIN 0 while its
latch is open, the model small until it is set and permitted from then on. That the unimplemented bits are 0 is the model's choice
(what they read as is not in the source, R61, log 39); that an event alone sets the model, once and to a permitted one, is the
spec's decision D3 (log 14). -/
def Obligations.StepKeepsInvariant : Prop :=
  ∀ s t : State, Sys2Proof.Machine.Inv s → step s = .next t → Sys2Proof.Machine.Inv t

/-- The state after reset meets the invariant. -/
def Obligations.ResetMeetsInvariant : Prop := Sys2Proof.Machine.Inv State.reset

/-- No step writes program memory or changes the device. That no device maps writable memory into program space, so that a
bus-write step too reaches data memory alone, is the model's choice (R112 says that the source leaves it open, log 46). -/
def Obligations.StepLeavesProgramMemory : Prop :=
  ∀ s t : State, step s = .next t → t.prog = s.prog ∧ t.dev = s.dev

/-- The value of DD the next instruction is decoded with: PSW.DD as the instruction leaves it, for the instructions that change
DD as part of their function, RTI and the resets; the PSW.DD it found, for every other instruction, also when it wrote PSW; one
of the two for POPS with PSW in its list (the spec's decisions D13 and D28, logs 10 and 26). -/
def Obligations.DdFetchAfterInstruction : Prop :=
  ∀ (i : Instr) (s u : State), exec i s = .next u →
    match i with
    | .pops (.cr _ _ true) => u.ddFetch = Psw.dd s.psw ∨ u.ddFetch = Psw.dd u.psw
    | .sdd | .rdd | .extnd | .rti | .brk => u.ddFetch = Psw.dd u.psw
    | .fcal _ _ | .fj _ _ | .frt => u.ddFetch = if s.farCode then Psw.dd s.psw else Psw.dd u.psw
    | _ =>
      match shapeOf i with
      | some (.loadW _) | some (.loadB _) | some (.loadImmW _) | some (.loadImmB _) => u.ddFetch = Psw.dd u.psw
      | _ => u.ddFetch = Psw.dd s.psw

/-- CSR changes only in the far instructions, VCAL, RTI and BRK; the memory model changes in no instruction but the resets: BRK, and
FCAL, FJ and FRT where they are the op-code trap. That no other instruction sets the model, which an event does, is the spec's
decision D3 (log 14). -/
def Obligations.OnlyTransfersChangeCsrAndModel : Prop :=
  ∀ (i : Instr) (s u : State), exec i s = .next u →
    (u.csr ≠ s.csr →
      (∃ v, i = .vcal v) ∨ (∃ seg w, i = .fcal seg w) ∨ (∃ seg w, i = .fj seg w) ∨ i = .frt ∨ i = .rti ∨ i = .brk) ∧
    ((u.model ≠ s.model ∨ u.modelSet ≠ s.modelSet) →
      i = .brk ∨ (s.farCode = false ∧ ((∃ seg w, i = .fcal seg w) ∨ (∃ seg w, i = .fj seg w) ∨ i = .frt)))

/-! ## Registers and memory -/

/-- Each flag update of PSW writes its own bit, at the place of R22, and no other; so does a bit write of a byte. -/
def Obligations.FlagWritesTouchOneBit : Prop :=
  ∀ (p : Word) (b : Bool) (k : Nat),
    (Psw.setC p b).getLsbD k = (if k = 15 then b else p.getLsbD k) ∧
    (Psw.setZ p b).getLsbD k = (if k = 14 then b else p.getLsbD k) ∧
    (Psw.setHc p b).getLsbD k = (if k = 13 then b else p.getLsbD k) ∧
    (Psw.setDd p b).getLsbD k = (if k = 12 then b else p.getLsbD k) ∧
    (Psw.setS p b).getLsbD k = (if k = 11 then b else p.getLsbD k) ∧
    (Psw.setOv p b).getLsbD k = (if k = 9 then b else p.getLsbD k) ∧
    (Psw.setMie p b).getLsbD k = (if k = 8 then b else p.getLsbD k) ∧
    (∀ (x : Byte) (i : Fin 8), (putBit x i.val b).getLsbD k = if k = i.val then b else x.getLsbD k)

/-- Where the pointing and local registers stand: PRn of set SCB at 0:0200H + 8 SCB + 2n, Rn of set LRBL at 0:0200H + 8 LRBL + n,
ERn the word of R(2n+1) and R2n. -/
def Obligations.RegistersStandInMemory : Prop :=
  ∀ s : State,
    (∀ n : PR, (s.prAddr n).toNat = 0x200 + 8 * (Psw.scb s.psw).toNat + 2 * n.num) ∧
    (∀ n : Nat, n < 8 → (s.rAddr n).toNat = 0x200 + 8 * (loByte s.lrb).toNat + n) ∧
    (∀ (n : ER) (h l : Byte), memReadByte s 0 (s.rAddr (2 * n.num + 1)) = .ok h →
      memReadByte s 0 (s.rAddr (2 * n.num)) = .ok l → erRead s n = .ok (mkWord h l))

/-- The pointing and local registers can always be read where the device has the bytes they stand in, and reading back what was
written to one gives it. That a register nothing has written reads at all is the model's choice (log 1). -/
def Obligations.RegistersReadAndWrite : Prop :=
  ∀ s : State, RegistersPresent s →
    (∀ n, ∃ v, prRead s n = .ok v) ∧ (∀ n, ∃ v, erRead s n = .ok v) ∧ (∀ n, ∃ v, rRead s n = .ok v) ∧
    (∀ n v, ∃ t, prWrite s n v = .ok t ∧ prRead t n = .ok v ∧ t = s.setData t.data ∧
      SameCells (wordBytes 0 (s.prAddr n)) s t) ∧
    (∀ n v, ∃ t, erWrite s n v = .ok t ∧ erRead t n = .ok v ∧ t = s.setData t.data ∧
      SameCells (wordBytes 0 (s.rAddr (2 * n.num))) s t) ∧
    (∀ n v, ∃ t, rWrite s n v = .ok t ∧ rRead t n = .ok v ∧ t = s.setData t.data ∧
      SameCells [key 0 (s.rAddr n.num)] s t)

/-- A data word access at an odd address uses the even address below it, a program word access does not, and either has its low
byte at the lower address. -/
def Obligations.WordBoundary : Prop :=
  ∀ (s : State) (seg : Byte) (off v : Word),
    memReadWord s seg off = memReadWord s seg (off &&& 0xFFFE) ∧
    memWriteWord s seg off v = memWriteWord s seg (off &&& 0xFFFE) v ∧
    (∀ h l, memReadByte s seg (off &&& 0xFFFE) = .ok l → memReadByte s seg ((off &&& 0xFFFE) + 1) = .ok h →
      memReadWord s seg off = .ok (mkWord h l)) ∧
    (∀ h l, codeReadByte s seg off = .ok l → codeReadByte s seg (off + 1) = .ok h →
      codeReadWord s seg off = .ok (mkWord h l))

/-- A store outside the SFR area succeeds exactly where the device has memory, can be read back, and changes nothing else; elsewhere
an access faults, a word access also where one of its two bytes alone is absent (the spec's decision D16, log 15). -/
def Obligations.StoreThenRead : Prop :=
  ∀ (s : State) (seg : Byte) (off : Word), isSfr seg off = false →
    (∀ v : Byte, inRanges s.dev.dataPresent (key seg off) = true →
      ∃ t, memWriteByte s seg off v = .ok t ∧ memReadByte t seg off = .ok v ∧ t = s.setData t.data ∧
        SameCells [key seg off] s t) ∧
    (∀ v : Byte, inRanges s.dev.dataPresent (key seg off) = false →
      memWriteByte s seg off v = .error (.fault .absentData) ∧ memReadByte s seg off = .error (.fault .absentData)) ∧
    (∀ v : Word, inRanges s.dev.dataPresent (key seg (evenOff off)) = true →
      inRanges s.dev.dataPresent (key seg (evenOff off) + 1) = true →
      ∃ t, memWriteWord s seg off v = .ok t ∧ memReadWord t seg off = .ok v ∧
        t.cell (key seg (evenOff off)) = some (loByte v) ∧ t.cell (key seg (evenOff off) + 1) = some (hiByte v) ∧
        t = s.setData t.data ∧ SameCells (wordBytes seg off) s t) ∧
    (∀ v : Word, inRanges s.dev.dataPresent (key seg (evenOff off)) = false ∨
      inRanges s.dev.dataPresent (key seg (evenOff off) + 1) = false →
      memWriteWord s seg off v = .error (.fault .absentData)) ∧
    (inRanges s.dev.dataPresent (key seg (evenOff off)) = false → memReadWord s seg off = .error (.fault .absentData)) ∧
    (∀ l, inRanges s.dev.dataPresent (key seg (evenOff off) + 1) = false → memReadByte s seg (evenOff off) = .ok l →
      memReadWord s seg off = .error (.fault .absentData))

/-- The segment of a data offset: 0 in the common area, whose end BCB gives, and DSR above it where the model makes DSR valid. That
the memory behind the common area is segment 0 is an inference of the spec (R95, log 38). -/
def Obligations.DataSegmentOfOffset : Prop :=
  ∀ (s : State) (off : Word),
    (commonLimit 0 = 0x3FF ∧ commonLimit 1 = 0x1FFF ∧ commonLimit 2 = 0x3FFF ∧ commonLimit 3 = 0x7FFF) ∧
    (off.toNat ≤ 0x3FF → s.physSeg off = 0) ∧
    (Psw.bcb s.psw = 1 → off.toNat ≤ 0x1FFF → s.physSeg off = 0) ∧
    (Psw.bcb s.psw = 2 → off.toNat ≤ 0x3FFF → s.physSeg off = 0) ∧
    (Psw.bcb s.psw = 3 → off.toNat ≤ 0x7FFF → s.physSeg off = 0) ∧
    (s.model = .small ∨ s.model = .medium → s.physSeg off = 0) ∧
    ((s.model = .compact ∨ s.model = .large) →
      (0x7FFF < off.toNat ∨ (Psw.bcb s.psw = 0 ∧ 0x3FF < off.toNat) ∨ (Psw.bcb s.psw = 1 ∧ 0x1FFF < off.toNat)
        ∨ (Psw.bcb s.psw = 2 ∧ 0x3FFF < off.toNat)) → s.physSeg off = s.dsr)

/-- The ROM window: from low nibble times 1000H to high nibble times 1000H plus 0FFFH, closed when the low nibble is 0; outside
internal data memory a read in it is a read of the table segment, without a word boundary, and a write a fault (the order of the
tests and the fault are the spec's decisions D14 and D20, log 22). -/
def Obligations.RomWindowReadsTableSegment : Prop :=
  ∀ (s : State) (off : Word),
    (s.inWindow off = true ↔ (s.romwin.toNat % 16 ≠ 0 ∧ s.romwin.toNat % 16 * 0x1000 ≤ off.toNat ∧
      off.toNat ≤ s.romwin.toNat / 16 * 0x1000 + 0xFFF)) ∧
    (s.inWindow off = true → inRanges s.dev.internalData (key (s.physSeg off) off) = false →
      dReadByte s off = codeReadByte s s.tableSeg off ∧ dReadWord s off = codeReadWord s s.tableSeg off ∧
      (∀ v, dWriteByte s off v = .error (.fault .romWindowWrite)) ∧
      (∀ v, dWriteWord s off v = .error (.fault .romWindowWrite))) ∧
    ((s.inWindow off = false ∨ inRanges s.dev.internalData (key (s.physSeg off) off) = true) →
      dReadByte s off = memReadByte s (s.physSeg off) off ∧ dReadWord s off = memReadWord s (s.physSeg off) off ∧
      (∀ v, dWriteByte s off v = memWriteByte s (s.physSeg off) off v) ∧
      (∀ v, dWriteWord s off v = memWriteWord s (s.physSeg off) off v))

/-- The SFR area: SSP, LRB and PSW are the words at 0:0000H, 0:0002H and 0:0004H, a byte access reaching the half at its address; at
the addresses a device gives them stand A at its two bytes, TSR and DSR with their implemented bits, and ROMWIN, which only the
first write after reset changes (the spec's decision D12, log 21; unimplemented bits read 0 by the model's choice, log 39). An
operand there is read and written as these registers are, whatever BCB, DSR and ROMWIN hold, and a MOV or MOVB of an immediate by
sfr addressing writes them and nothing else; DD_FETCH keeps the DD before a write of PSW (R550). -/
def Obligations.RegistersInTheSfrArea : Prop :=
  ∀ (s : State) (off x : Word) (a v w : Byte), isSfr 0 off = true →
    (memReadWord s 0 0 = .ok s.ssp ∧ memReadWord s 0 2 = .ok s.lrb ∧ memReadWord s 0 4 = .ok s.psw ∧
      memWriteWord s 0 0 x = .ok (s.setSsp x) ∧ memWriteWord s 0 2 x = .ok (s.setLrb x) ∧
      memWriteWord s 0 4 x = .ok (s.setPsw x) ∧
      memReadByte s 0 0 = .ok (loByte s.ssp) ∧ memReadByte s 0 1 = .ok (hiByte s.ssp) ∧
      memReadByte s 0 2 = .ok (loByte s.lrb) ∧ memReadByte s 0 3 = .ok (hiByte s.lrb) ∧
      memReadByte s 0 4 = .ok (loByte s.psw) ∧ memReadByte s 0 5 = .ok (hiByte s.psw) ∧
      memWriteByte s 0 0 v = .ok (s.setSsp (mkWord (hiByte s.ssp) v)) ∧
      memWriteByte s 0 1 v = .ok (s.setSsp (mkWord v (loByte s.ssp))) ∧
      memWriteByte s 0 2 v = .ok (s.setLrb (mkWord (hiByte s.lrb) v)) ∧
      memWriteByte s 0 3 v = .ok (s.setLrb (mkWord v (loByte s.lrb))) ∧
      memWriteByte s 0 4 v = .ok (s.setPsw (mkWord (hiByte s.psw) v)) ∧
      memWriteByte s 0 5 v = .ok (s.setPsw (mkWord v (loByte s.psw)))) ∧
    (sfrAt s.dev off.toNat = .accL → memReadByte s 0 off = .ok (loByte s.a) ∧
      memWriteByte s 0 off v = .ok (s.setA (mkWord (hiByte s.a) v))) ∧
    (sfrAt s.dev off.toNat = .accH → memReadByte s 0 off = .ok (hiByte s.a) ∧
      memWriteByte s 0 off v = .ok (s.setA (mkWord v (loByte s.a)))) ∧
    (sfrAt s.dev off.toNat = .tsr → memReadByte s 0 off = .ok s.tsr ∧
      memWriteByte s 0 off v = .ok (s.setTsrRaw (v &&& segMask s.dev.tsrBits))) ∧
    (sfrAt s.dev off.toNat = .dsr → memReadByte s 0 off = .ok s.dsr ∧
      memWriteByte s 0 off v = .ok (s.setDsrRaw (v &&& segMask s.dev.dsrBits))) ∧
    (sfrAt s.dev off.toNat = .romwin → memReadByte s 0 off = .ok s.romwin ∧
      (s.romwinWritten = true → memWriteByte s 0 off v = .ok s) ∧
      (s.romwinWritten = false → ∃ t, memWriteByte s 0 off v = .ok t ∧ t = s.setRomwinRaw v true ∧
        memWriteByte t 0 off w = .ok t)) ∧
    (rdB (.data off) s = memReadByte s 0 off ∧ wrB (.data off) v s = memWriteByte s 0 off v ∧
      (sfrOddWord s off = false → rdW (.data off) s = memReadWord s 0 off ∧ wrW (.data off) x s = memWriteWord s 0 off x)) ∧
    (let done (t : State) : Host.Outcome State Fault Refusal := .next (t.setDdFetch (Psw.dd s.psw))
     exec (.movSfrImm 0 x) s = done (s.setSsp x) ∧ exec (.movSfrImm 2 x) s = done (s.setLrb x) ∧
      exec (.movSfrImm 4 x) s = done (s.setPsw x) ∧
      (sfrAt s.dev a.toNat = .accL → exec (.movbSfrImm a v) s = done (s.setA (mkWord (hiByte s.a) v))) ∧
      (sfrAt s.dev a.toNat = .accH → exec (.movbSfrImm a v) s = done (s.setA (mkWord v (loByte s.a)))) ∧
      (sfrAt s.dev a.toNat = .tsr → exec (.movbSfrImm a v) s = done (s.setTsrRaw (v &&& segMask s.dev.tsrBits))) ∧
      (sfrAt s.dev a.toNat = .dsr → exec (.movbSfrImm a v) s = done (s.setDsrRaw (v &&& segMask s.dev.dsrBits))) ∧
      (sfrAt s.dev a.toNat = .romwin → exec (.movbSfrImm a v) s =
        done (if s.romwinWritten then s else s.setRomwinRaw v true)))

/-- Reading and writing a location: A or AL, a half of PSW, the word or byte of segment 0 for a register, and the data access of
DRead and DWrite for an offset, but that a word operand at an odd SFR address the device excepts from the word boundary faults (log
41). A store changes the bytes the location names and, in the SFR area apart, no register but A for the accumulator and PSW
for PSWL and PSWH: AH stays in a byte store to A, and the other half of PSW. -/
def Obligations.StoreToLocation : Prop :=
  ∀ (s : State) (l : Loc),
    (∀ (x : Word) (v : Byte),
      (rdW .acc s = .ok s.a ∧ rdB .acc s = .ok (loByte s.a) ∧ wrW .acc x s = .ok (s.setA x) ∧
        wrB .acc v s = .ok (s.setA (mkWord (hiByte s.a) v))) ∧
      (rdB (.psw false) s = .ok (loByte s.psw) ∧ rdB (.psw true) s = .ok (hiByte s.psw) ∧
        wrB (.psw false) v s = .ok (s.setPsw (mkWord (hiByte s.psw) v)) ∧
        wrB (.psw true) v s = .ok (s.setPsw (mkWord v (loByte s.psw)))) ∧
      (∀ p, rdW (.phys p) s = memReadWord s 0 p ∧ rdB (.phys p) s = memReadByte s 0 p ∧
        wrW (.phys p) x s = memWriteWord s 0 p x ∧ wrB (.phys p) v s = memWriteByte s 0 p v) ∧
      (∀ off, rdB (.data off) s = dReadByte s off ∧ wrB (.data off) v s = dWriteByte s off v ∧
        (sfrOddWord s off = false → rdW (.data off) s = dReadWord s off ∧ wrW (.data off) x s = dWriteWord s off x) ∧
        (sfrOddWord s off = true → isSfr (s.physSeg off) off = true ∧ off.toNat % 2 = 1 ∧ off.toNat ∈ s.dev.sfrOddWords ∧
          rdW (.data off) s = .error (.fault .sfrWordException) ∧
          wrW (.data off) x s = .error (.fault .sfrWordException)))) ∧
    (∀ v t, wrW l v s = .ok t → SameCells (l.bytesW s) s t ∧ (l.inSfr s = false → Kept s t ∧ t.pc = s.pc ∧
      t.a = (if l = .acc then v else s.a) ∧ ((∀ h, l ≠ .psw h) → t.psw = s.psw ∧ rdW l t = .ok v))) ∧
    (∀ v t, wrB l v s = .ok t → SameCells (l.bytesB s) s t ∧ (l.inSfr s = false → Kept s t ∧ t.pc = s.pc ∧ rdB l t = .ok v ∧
      t.a = (if l = .acc then mkWord (hiByte s.a) v else s.a) ∧
      t.psw = (if l = .psw true then mkWord v (loByte s.psw)
        else if l = .psw false then mkWord (hiByte s.psw) v else s.psw)))

/-! ## Operands -/

/-- Where every operand stands: the accumulator, PSWL and PSWH, the pointing and local registers at their bytes of data segment 0,
and the offset each addressing mode gives, wrapping in 16 bits, with the move of DP by 2 (word) or 1 (byte and bit).
Locating an operand changes nothing but DP, and DP only in [DP+] and [DP-], at once (the spec's decision D6, log 17). -/
def Obligations.AddressingModes : Prop :=
  ∀ (s : State) (st : Word),
    (locW .acc s = .ok (.acc, s) ∧ locB .acc s = .ok (.acc, s) ∧ locB .pswl s = .ok (.psw false, s) ∧
      locB .pswh s = .ok (.psw true, s)) ∧
    (let byteReg (r : R8) (n : Nat) := ∃ o, locB (.r r) s = .ok (.phys o, s) ∧ o.toNat = 0x200 + 8 * (loByte s.lrb).toNat + n
     byteReg .r0 0 ∧ byteReg .r1 1 ∧ byteReg .r2 2 ∧ byteReg .r3 3 ∧ byteReg .r4 4 ∧ byteReg .r5 5 ∧ byteReg .r6 6 ∧ byteReg .r7 7) ∧
    (let wordReg (r : ER) (n : Nat) := ∃ o, locW (.er r) s = .ok (.phys o, s) ∧ o.toNat = 0x200 + 8 * (loByte s.lrb).toNat + n
     wordReg .er0 0 ∧ wordReg .er1 2 ∧ wordReg .er2 4 ∧ wordReg .er3 6) ∧
    (let pointing (r : PR) (n : Nat) := ∃ o, locW (.pr r) s = .ok (.phys o, s) ∧ o.toNat = 0x200 + 8 * (Psw.scb s.psw).toNat + n ∧
       prRead s r = memReadWord s 0 o
     pointing .x1 0 ∧ pointing .x2 2 ∧ pointing .dp 4 ∧ pointing .usp 6) ∧
    (∀ x, prRead s .x1 = .ok x →
      modeLoc st .x1 s = .ok (.data x, s) ∧ (∀ d, modeLoc st (.d16x1 d) s = .ok (.data (x + d), s)) ∧
      modeLoc st .x1A s = .ok (.data (x + (loByte s.a).setWidth 16), s) ∧
      (∀ r, rRead s .r0 = .ok r → modeLoc st .x1R0 s = .ok (.data (x + r.setWidth 16), s))) ∧
    (∀ x, prRead s .x2 = .ok x → ∀ d, modeLoc st (.d16x2 d) s = .ok (.data (x + d), s)) ∧
    (∀ x, prRead s .dp = .ok x →
      modeLoc st .dp s = .ok (.data x, s) ∧ (∀ n, modeLoc st (.n7dp n) s = .ok (.data (x + n.signExtend 16), s)) ∧
      (∀ t, prWrite s .dp (x + st) = .ok t → modeLoc st .dpInc s = .ok (.data x, t)) ∧
      (∀ t, prWrite s .dp (x - st) = .ok t → modeLoc st .dpDec s = .ok (.data x, t))) ∧
    (∀ x, prRead s .usp = .ok x → ∀ n, modeLoc st (.n7usp n) s = .ok (.data (x + n.signExtend 16), s)) ∧
    (∀ a, modeLoc st (.fix a) s = .ok (.data (0x200 + a.setWidth 16), s)) ∧
    (∀ a, modeLoc st (.off a) s = .ok (.data (mkWord (hiByte s.lrb) a), s)) ∧
    (∀ a, modeLoc st (.sfr a) s = .ok (.data (a.setWidth 16), s)) ∧
    (∀ w, modeLoc st (.dir w) s = .ok (.data w, s)) ∧
    (∀ m, locW (.mem m) s = modeLoc 2 m s ∧ locB (.mem m) s = modeLoc 1 m s) ∧
    (∀ k : BitVec 6, locBit (.sbafix k) s = .ok (.data (0x2C0 + k.setWidth 16), s) ∧
      ∃ o, locBit (.sbaoff k) s = .ok (.data o, s) ∧
        o.toNat = (hiByte s.lrb).toNat * 0x100 + 0xC0 + k.toNat) ∧
    (∀ p l t, locW p s = .ok (l, t) → t = s.setData t.data ∧ SameCells s.dpBytes s t ∧ (WOp.movesDp p = false → t = s)) ∧
    (∀ p l t, locB p s = .ok (l, t) → t = s.setData t.data ∧ SameCells s.dpBytes s t ∧ (BOp.movesDp p = false → t = s))

/-! ## The stack -/

/-- A push stores the word at 0:SSP, aligned down, and takes 2 from SSP; a pop of it gives it back with SSP as it was. -/
def Obligations.PopUndoesPush : Prop :=
  ∀ (s : State) (v : Word), PlainWord s s.ssp →
    ∃ t, push16 s v = .ok t ∧ t.ssp = s.ssp - 2 ∧ t.cell (key 0 (evenOff s.ssp)) = some (loByte v) ∧
      t.cell (key 0 (evenOff s.ssp) + 1) = some (hiByte v) ∧ SameCells (wordBytes 0 s.ssp) s t ∧
      t = (s.setData t.data).setSsp (s.ssp - 2) ∧ pop16 t = .ok (v, t.setSsp s.ssp)

/-- PUSHS. `PUSHS A` pushes all of A on an ordinary stack word. A list pushes its registers in the order ER3 to ER0, or USP, DP, X2,
X1, or A, LRB, PSW, at the addresses of the start, each value read at its own turn, after the pushes before it (the order of R111);
for a stack above the register area it completes: SSP goes down by 2 a register, each register named stands in the next word down
with the value it had, and nothing else changes. -/
def Obligations.PushRegisters : Prop :=
  ∀ s : State,
    (PlainWord s s.ssp →
      ∃ t, exec .pushsA s = .next t ∧ memReadWord t 0 s.ssp = .ok s.a ∧ SameCells (wordBytes 0 s.ssp) s t ∧
        t = ((s.setData t.data).setSsp (s.ssp - 2)).setDdFetch (Psw.dd s.psw)) ∧
    (let at0 (named : Bool) (off : Word) : List (State → Res Word) := if named then [fun t => memReadWord t 0 off] else []
     ∀ u,
      (∀ e0 e1 e2 e3, pushReads (at0 e3 (s.rAddr 6) ++ at0 e2 (s.rAddr 4) ++ at0 e1 (s.rAddr 2) ++ at0 e0 (s.rAddr 0)) s = .ok u →
        exec (.pushs (.er e0 e1 e2 e3)) s = .next (u.setDdFetch (Psw.dd s.psw))) ∧
      (∀ x1 x2 dp usp, pushReads (at0 usp (s.prAddr .usp) ++ at0 dp (s.prAddr .dp) ++ at0 x2 (s.prAddr .x2)
          ++ at0 x1 (s.prAddr .x1)) s = .ok u →
        exec (.pushs (.pr x1 x2 dp usp)) s = .next (u.setDdFetch (Psw.dd s.psw))) ∧
      (∀ a l p, pushReads ((if a then [fun t => .ok t.a] else []) ++ (if l then [fun t => .ok t.lrb] else [])
          ++ (if p then [fun t => .ok t.psw] else [])) s = .ok u →
        exec (.pushs (.cr a l p)) s = .next (u.setDdFetch (Psw.dd s.psw)))) ∧
    (∀ l : RegList, RegistersPresent s → 0xA08 ≤ s.ssp.toNat →
      (∀ k, k < 4 → PlainWord s (s.ssp - BitVec.ofNat 16 (2 * k))) →
      ∃ t, exec (.pushs l) s = .next t ∧
        t = ((s.setData t.data).setSsp (s.ssp - BitVec.ofNat 16 (2 * RegList.count l))).setDdFetch (Psw.dd s.psw) ∧
        (∀ a, (∀ k, k < RegList.count l → a ∉ wordBytes 0 (s.ssp - BitVec.ofNat 16 (2 * k))) → t.cell a = s.cell a) ∧
        (let slot (n : Nat) := memReadWord t 0 (s.ssp - BitVec.ofNat 16 (2 * n))
         match l with
         | .er e0 e1 e2 e3 =>
           (e3 = true → slot 0 = erRead s .er3) ∧ (e2 = true → slot e3.toNat = erRead s .er2) ∧
           (e1 = true → slot (e3.toNat + e2.toNat) = erRead s .er1) ∧
           (e0 = true → slot (e3.toNat + e2.toNat + e1.toNat) = erRead s .er0)
         | .pr x1 x2 dp usp =>
           (usp = true → slot 0 = prRead s .usp) ∧ (dp = true → slot usp.toNat = prRead s .dp) ∧
           (x2 = true → slot (usp.toNat + dp.toNat) = prRead s .x2) ∧
           (x1 = true → slot (usp.toNat + dp.toNat + x2.toNat) = prRead s .x1)
         | .cr a lrb psw =>
           (a = true → slot 0 = .ok s.a) ∧ (lrb = true → slot a.toNat = .ok s.lrb) ∧
           (psw = true → slot (a.toNat + lrb.toNat) = .ok s.psw)))

/-- POPS of the list a PUSHS pushed completes and restores SSP, A, LRB, PSW and every byte of memory outside the words pushed,
the registers included, for a stack above the register area; DD_FETCH apart, nothing else differs. -/
def Obligations.PopsUndoesPushs : Prop :=
  ∀ (l : RegList) (s : State), RegistersPresent s → 0xA08 ≤ s.ssp.toNat →
    (∀ k, k < 4 → PlainWord s (s.ssp - BitVec.ofNat 16 (2 * k))) →
    ∃ u w, exec (.pushs l) s = .next u ∧ exec (.pops l) u = .next w ∧ w.ssp = s.ssp ∧ w.a = s.a ∧ w.lrb = s.lrb ∧
      w.psw = s.psw ∧ Kept s w ∧ w.pc = s.pc ∧
      ∀ a, (∀ k, k < 4 → a ∉ wordBytes 0 (s.ssp - BitVec.ofNat 16 (2 * k))) → w.cell a = s.cell a

/-- POPS of a list, for a stack above the register area whose words can be read: each named register gets the next word up, in the
order ER0 to ER3, or X1, X2, DP, USP, or PSW, LRB, A; SSP goes up by 2 a word, and nothing but the named registers changes. -/
def Obligations.PopsResult : Prop :=
  ∀ (l : RegList) (s : State), RegistersPresent s → 0x9FE ≤ s.ssp.toNat → s.ssp.toNat + 2 * RegList.count l < 0x10000 →
    (∀ k, 1 ≤ k → k ≤ RegList.count l → PlainWord s (s.ssp + BitVec.ofNat 16 (2 * k)) ∧
      ∃ v, memReadWord s 0 (s.ssp + BitVec.ofNat 16 (2 * k)) = .ok v) →
    ∃ u, exec (.pops l) s = .next u ∧ u.ssp = s.ssp + BitVec.ofNat 16 (2 * RegList.count l) ∧ u.pc = s.pc ∧ u.csr = s.csr ∧
      (let slot (n : Nat) := memReadWord s 0 (s.ssp + BitVec.ofNat 16 (2 * n))
       match l with
       | .er e0 e1 e2 e3 =>
         (e0 = true → erRead u .er0 = slot 1) ∧ (e1 = true → erRead u .er1 = slot (1 + e0.toNat)) ∧
         (e2 = true → erRead u .er2 = slot (1 + e0.toNat + e1.toNat)) ∧
         (e3 = true → erRead u .er3 = slot (1 + e0.toNat + e1.toNat + e2.toNat)) ∧
         u.a = s.a ∧ u.psw = s.psw ∧ KeptRest s u ∧
         SameCells ((if e0 then wordBytes 0 (s.rAddr 0) else []) ++ (if e1 then wordBytes 0 (s.rAddr 2) else [])
           ++ (if e2 then wordBytes 0 (s.rAddr 4) else []) ++ (if e3 then wordBytes 0 (s.rAddr 6) else [])) s u
       | .pr x1 x2 dp usp =>
         (x1 = true → prRead u .x1 = slot 1) ∧ (x2 = true → prRead u .x2 = slot (1 + x1.toNat)) ∧
         (dp = true → prRead u .dp = slot (1 + x1.toNat + x2.toNat)) ∧
         (usp = true → prRead u .usp = slot (1 + x1.toNat + x2.toNat + dp.toNat)) ∧
         u.a = s.a ∧ u.psw = s.psw ∧ KeptRest s u ∧
         SameCells ((if x1 then wordBytes 0 (s.prAddr .x1) else []) ++ (if x2 then wordBytes 0 (s.prAddr .x2) else [])
           ++ (if dp then wordBytes 0 (s.prAddr .dp) else []) ++ (if usp then wordBytes 0 (s.prAddr .usp) else [])) s u
       | .cr a lrb psw =>
         (if psw then slot 1 = .ok u.psw else u.psw = s.psw) ∧
         (if lrb then slot (1 + psw.toNat) = .ok u.lrb else u.lrb = s.lrb) ∧
         (if a then slot (1 + psw.toNat + lrb.toNat) = .ok u.a else u.a = s.a) ∧
         u.tsr = s.tsr ∧ u.dsr = s.dsr ∧ u.romwin = s.romwin ∧ u.romwinWritten = s.romwinWritten ∧ u.model = s.model ∧
         u.modelSet = s.modelSet ∧ u.prog = s.prog ∧ u.data = s.data ∧ u.inputs = s.inputs ∧ u.dev = s.dev)

/-! ## Data movement -/

/-- The loads: L writes A, LB writes AL, both write Z from the value, and DD becomes 1 for L and CLR A, 0 for LB and CLRB A, at
once for the next instruction. -/
def Obligations.LoadResult : Prop :=
  ∀ (i : Instr) (s : State),
    (∀ p t l v, shapeOf i = some (.loadW p) → locW p s = .ok (l, t) → rdW l t = .ok v →
      exec i s = .next (((t.setA v).setPsw (Psw.setDd (Psw.setZ t.psw (v == 0)) true)).setDdFetch true)) ∧
    (∀ p t l v, shapeOf i = some (.loadB p) → locB p s = .ok (l, t) → rdB l t = .ok v →
      exec i s = .next (((t.setA (mkWord (hiByte t.a) v)).setPsw (Psw.setDd (Psw.setZ t.psw (v == 0)) false)).setDdFetch
        false)) ∧
    (∀ v, shapeOf i = some (.loadImmW v) →
      exec i s = .next (((s.setA v).setPsw (Psw.setDd (Psw.setZ s.psw (v == 0)) true)).setDdFetch true)) ∧
    (∀ v, shapeOf i = some (.loadImmB v) →
      exec i s = .next (((s.setA (mkWord (hiByte s.a) v)).setPsw (Psw.setDd (Psw.setZ s.psw (v == 0)) false)).setDdFetch
        false))

/-- The stores and moves. ST, STB, MOV and MOVB: the source is located, then the destination, then the source is read and the
destination written (an order that is the spec's decision D6, R143, log 17). MOV and MOVB of an immediate, CLR and CLRB of an operand, FILL and FILLB: the constant is stored. No flag
changes, and DD stays as it was. -/
def Obligations.MoveResult : Prop :=
  ∀ (i : Instr) (s t t' u : State) (l m : Loc),
    (∀ d p v, shapeOf i = some (.moveW d p) → locW p s = .ok (l, t) → locW d t = .ok (m, t') → rdW l t' = .ok v →
      wrW m v t' = .ok u → exec i s = .next (u.setDdFetch (Psw.dd s.psw))) ∧
    (∀ d p v, shapeOf i = some (.moveB d p) → locB p s = .ok (l, t) → locB d t = .ok (m, t') → rdB l t' = .ok v →
      wrB m v t' = .ok u → exec i s = .next (u.setDdFetch (Psw.dd s.psw))) ∧
    (∀ p v, shapeOf i = some (.constW p v) → locW p s = .ok (l, t) → wrW l v t = .ok u →
      exec i s = .next (u.setDdFetch (Psw.dd s.psw))) ∧
    (∀ p v, shapeOf i = some (.constB p v) → locB p s = .ok (l, t) → wrB l v t = .ok u →
      exec i s = .next (u.setDdFetch (Psw.dd s.psw)))

/-- XCHG swaps A with a word and XCHGB AL with a byte, when DD_FETCH agrees; SWAP swaps AH and AL; no flag. -/
def Obligations.ExchangeResult : Prop :=
  ∀ (s t u : State) (l : Loc),
    (∀ p v, s.ddFetch = true → locW p s = .ok (l, t) → rdW l t = .ok v → wrW l t.a t = .ok u →
      exec (.xchgAW p) s = .next ((u.setA v).setDdFetch (Psw.dd s.psw))) ∧
    (∀ p v, s.ddFetch = false → locB p s = .ok (l, t) → rdB l t = .ok v → wrB l (loByte t.a) t = .ok u →
      exec (.xchgbAB p) s = .next ((u.setA (mkWord (hiByte u.a) v)).setDdFetch (Psw.dd s.psw))) ∧
    exec .swap s = .next ((s.setA (mkWord (loByte s.a) (hiByte s.a))).setDdFetch (Psw.dd s.psw))

/-- A composite accumulator instruction whose prefix width disagrees with DD_FETCH does not run: the model faults (R135; the
spec's decision D26, log 28). -/
def Obligations.WidthMismatchFaults : Prop :=
  ∀ (i : Instr) (s : State),
    (s.ddFetch = false → (∃ op p, shapeOf i = some (.aluAW true op p)) ∨ (∃ p, shapeOf i = some (.exchW p)) →
      exec i s = .fault .ddMismatch) ∧
    (s.ddFetch = true → (∃ op p, shapeOf i = some (.aluAB true op p)) ∨ (∃ p, shapeOf i = some (.exchB p)) →
      exec i s = .fault .ddMismatch)

/-! ## Shifts, increments, arithmetic and logic -/

/-- Every shift and rotate writes its shifted operand back and C before it; that the flag comes before a result that may go to PSW is
the spec's decision D11 (R23, log 20). -/
def Obligations.ShiftResult : Prop :=
  ∀ (i : Instr) (s t u : State) (l : Loc),
    (∀ op p n x, shapeOf i = some (.shiftW op p n) → locW p s = .ok (l, t) → rdW l t = .ok x →
      wrW l (shiftRun op (Psw.c t.psw) x n).1 (t.setPsw (Psw.setC t.psw (shiftRun op (Psw.c t.psw) x n).2)) = .ok u →
      exec i s = .next (u.setDdFetch (Psw.dd s.psw))) ∧
    (∀ op p n x, shapeOf i = some (.shiftB op p n) → locB p s = .ok (l, t) → rdB l t = .ok x →
      wrB l (shiftRun op (Psw.c t.psw) x n).1 (t.setPsw (Psw.setC t.psw (shiftRun op (Psw.c t.psw) x n).2)) = .ok u →
      exec i s = .next (u.setDdFetch (Psw.dd s.psw)))

/-- What the shifts compute, for a width n of 1 to 4: SLL multiplies by 2^n with C the OR of the bits lost, SRL divides by 2^n,
SRA divides the signed value rounding down, both with C the last bit lost, and the rotates turn C and the operand as one number
of w + 1 bits. -/
def Obligations.ShiftMeaning : Prop :=
  ∀ (w n : Nat) (c : Bool) (x : BitVec w), w = 8 ∨ w = 16 → 1 ≤ n → n ≤ 4 →
    ((shiftRun .sll c x n).1.toNat = x.toNat * 2 ^ n % 2 ^ w ∧
      (shiftRun .sll c x n).2 = decide (2 ^ w ≤ x.toNat * 2 ^ n)) ∧
    ((shiftRun .srl c x n).1.toNat = x.toNat / 2 ^ n ∧ (shiftRun .srl c x n).2 = decide (x.toNat / 2 ^ (n - 1) % 2 = 1)) ∧
    ((shiftRun .sra c x n).1.toInt = x.toInt / 2 ^ n ∧ (shiftRun .sra c x n).2 = decide (x.toNat / 2 ^ (n - 1) % 2 = 1)) ∧
    (let r := shiftRun .rol c x n
     r.2.toNat * 2 ^ w + r.1.toNat =
       (c.toNat * 2 ^ w + x.toNat) * 2 ^ n % 2 ^ (w + 1) + (c.toNat * 2 ^ w + x.toNat) * 2 ^ n / 2 ^ (w + 1)) ∧
    (let r := shiftRun .ror c x n
     r.2.toNat * 2 ^ w + r.1.toNat =
       (c.toNat * 2 ^ w + x.toNat) / 2 ^ n + (c.toNat * 2 ^ w + x.toNat) % 2 ^ n * 2 ^ (w + 1 - n))

/-- INC, INCB, DEC and DECB add or take 1 with Z, S, OV and HC, and leave C. HC from bit 3 also for a word is the spec's decision
D23 (log 25), the flags before a result that may go to PSW its decision D11 (log 20). -/
def Obligations.IncDecResult : Prop :=
  ∀ (i : Instr) (s t u : State) (l : Loc),
    (∀ p x o, shapeOf i = some (.incDecW false p) → locW p s = .ok (l, t) → rdW l t = .ok x → o = addFlags x 1 false →
      wrW l (x + 1) (t.setPsw (Psw.setHc (Psw.setOv (Psw.setS (Psw.setZ t.psw o.z) o.s) o.ov) o.hc)) = .ok u →
      exec i s = .next (u.setDdFetch (Psw.dd s.psw))) ∧
    (∀ p x o, shapeOf i = some (.incDecW true p) → locW p s = .ok (l, t) → rdW l t = .ok x → o = subFlags x 1 false →
      wrW l (x - 1) (t.setPsw (Psw.setHc (Psw.setOv (Psw.setS (Psw.setZ t.psw o.z) o.s) o.ov) o.hc)) = .ok u →
      exec i s = .next (u.setDdFetch (Psw.dd s.psw))) ∧
    (∀ p x o, shapeOf i = some (.incDecB false p) → locB p s = .ok (l, t) → rdB l t = .ok x → o = addFlags x 1 false →
      wrB l (x + 1) (t.setPsw (Psw.setHc (Psw.setOv (Psw.setS (Psw.setZ t.psw o.z) o.s) o.ov) o.hc)) = .ok u →
      exec i s = .next (u.setDdFetch (Psw.dd s.psw))) ∧
    (∀ p x o, shapeOf i = some (.incDecB true p) → locB p s = .ok (l, t) → rdB l t = .ok x → o = subFlags x 1 false →
      wrB l (x - 1) (t.setPsw (Psw.setHc (Psw.setOv (Psw.setS (Psw.setZ t.psw o.z) o.s) o.ov) o.hc)) = .ok u →
      exec i s = .next (u.setDdFetch (Psw.dd s.psw)))

/-- The arithmetic of the eight operations at either width: the sum or difference modulo 2^w, C the carry or borrow, Z and S of
the result, OV when the signed result does not fit, HC the carry or borrow of bit 3; the logical ones bit by bit with Z and S
alone. ADC and SBC take the old C in, CMP subtracts; no other bit of PSW changes. HC from bit 3 at either width is the spec's
decision D23 (log 25), OV with a carry in an inference of the spec (log 43). -/
def Obligations.AluMeaning : Prop :=
  ∀ (w : Nat) (p : Word) (x y : BitVec w), w = 8 ∨ w = 16 →
    (∀ op c n, (op = .add ∧ c = false) ∨ (op = .adc ∧ c = Psw.c p) → n = x.toNat + y.toNat + c.toNat →
      let r := aluRun op p x y
      r.1.toNat = n % 2 ^ w ∧ Psw.c r.2 = decide (2 ^ w ≤ n) ∧ Psw.z r.2 = decide (n % 2 ^ w = 0) ∧
      Psw.s r.2 = decide (2 ^ (w - 1) ≤ n % 2 ^ w) ∧
      Psw.ov r.2 = decide (x.toInt + y.toInt + c.toNat < -(2 ^ (w - 1)) ∨ 2 ^ (w - 1) ≤ x.toInt + y.toInt + c.toNat) ∧
      Psw.hc r.2 = decide (16 ≤ x.toNat % 16 + y.toNat % 16 + c.toNat) ∧ SameBits [15, 14, 13, 11, 9] p r.2) ∧
    (∀ op c (n : Int), ((op = .sub ∨ op = .cmp) ∧ c = false) ∨ (op = .sbc ∧ c = Psw.c p) →
      n = (x.toNat : Int) - y.toNat - c.toNat →
      let r := aluRun op p x y
      (r.1.toNat : Int) = n % 2 ^ w ∧ Psw.c r.2 = decide (n < 0) ∧ Psw.z r.2 = decide (n % 2 ^ w = 0) ∧
      Psw.s r.2 = decide (2 ^ (w - 1) ≤ n % 2 ^ w) ∧
      Psw.ov r.2 = decide (x.toInt - y.toInt - c.toNat < -(2 ^ (w - 1)) ∨ 2 ^ (w - 1) ≤ x.toInt - y.toInt - c.toNat) ∧
      Psw.hc r.2 = decide (x.toNat % 16 < y.toNat % 16 + c.toNat) ∧ SameBits [15, 14, 13, 11, 9] p r.2) ∧
    (∀ op, op = .and ∨ op = .or ∨ op = .xor →
      let r := aluRun op p x y
      (∀ k, k < w → r.1.getLsbD k = match op with
        | .and => x.getLsbD k && y.getLsbD k
        | .or => x.getLsbD k || y.getLsbD k
        | _ => x.getLsbD k != y.getLsbD k) ∧
      Psw.z r.2 = decide (r.1.toNat = 0) ∧ Psw.s r.2 = r.1.getLsbD (w - 1) ∧ SameBits [14, 11] p r.2)

/-- The eight operations. On the accumulator: A, or AL alone, becomes the result (not for CMP), with the flags. On a prefix operand:
both operands are located, then both read, then the flags are written and after them the result (not for CMP). That order is
the spec's decisions D6 (R143, log 17) and, for a result that goes to PSW, D11 (R23, log 20). -/
def Obligations.AluResult : Prop :=
  ∀ (i : Instr) (s t t' u : State) (l : Loc) (op : AluOp),
    (∀ c p y, shapeOf i = some (.aluAW c op p) → (c = true → s.ddFetch = true) → locW p s = .ok (l, t) →
      rdW l t = .ok y →
      exec i s = .next (((t.setPsw (aluRun op t.psw t.a y).2).setA
        (if op = .cmp then t.a else (aluRun op t.psw t.a y).1)).setDdFetch (Psw.dd s.psw))) ∧
    (∀ c p y, shapeOf i = some (.aluAB c op p) → (c = true → s.ddFetch = false) → locB p s = .ok (l, t) →
      rdB l t = .ok y →
      exec i s = .next (((t.setPsw (aluRun op t.psw (loByte t.a) y).2).setA
        (if op = .cmp then t.a else mkWord (hiByte t.a) (aluRun op t.psw (loByte t.a) y).1)).setDdFetch (Psw.dd s.psw))) ∧
    (∀ y, shapeOf i = some (.aluImmW op y) →
      exec i s = .next (((s.setPsw (aluRun op s.psw s.a y).2).setA
        (if op = .cmp then s.a else (aluRun op s.psw s.a y).1)).setDdFetch (Psw.dd s.psw))) ∧
    (∀ y, shapeOf i = some (.aluImmB op y) →
      exec i s = .next (((s.setPsw (aluRun op s.psw (loByte s.a) y).2).setA
        (if op = .cmp then s.a else mkWord (hiByte s.a) (aluRun op s.psw (loByte s.a) y).1)).setDdFetch (Psw.dd s.psw))) ∧
    (∀ p q m x y, shapeOf i = some (.aluMW op p q) → locW p s = .ok (l, t) → srcLocW q t = .ok (m, t') →
      rdW l t' = .ok x → srcRdW m t' = .ok y →
      (if op = .cmp then u = t'.setPsw (aluRun op t'.psw x y).2
        else wrW l (aluRun op t'.psw x y).1 (t'.setPsw (aluRun op t'.psw x y).2) = .ok u) →
      exec i s = .next (u.setDdFetch (Psw.dd s.psw))) ∧
    (∀ p q m x y, shapeOf i = some (.aluMB op p q) → locB p s = .ok (l, t) → srcLocB q t = .ok (m, t') →
      rdB l t' = .ok x → srcRdB m t' = .ok y →
      (if op = .cmp then u = t'.setPsw (aluRun op t'.psw x y).2
        else wrB l (aluRun op t'.psw x y).1 (t'.setPsw (aluRun op t'.psw x y).2) = .ok u) →
      exec i s = .next (u.setDdFetch (Psw.dd s.psw)))

/-- NEG and NEGB: the two's complement of A or AL, with the flags of 0 minus it (the spec's decision D27, log 29). -/
def Obligations.NegateResult : Prop :=
  ∀ s : State,
    (∃ q, exec .negA s = .next (((s.setA (-s.a)).setPsw q).setDdFetch (Psw.dd s.psw)) ∧
      Psw.c q = decide (s.a ≠ 0) ∧ Psw.z q = decide (s.a = 0) ∧ Psw.s q = (-s.a).getLsbD 15 ∧
      Psw.ov q = decide (s.a = 0x8000) ∧ Psw.hc q = decide (s.a.toNat % 16 ≠ 0) ∧ SameBits [15, 14, 13, 11, 9] s.psw q) ∧
    (∃ q, exec .negbA s = .next (((s.setA (mkWord (hiByte s.a) (-(loByte s.a)))).setPsw q).setDdFetch (Psw.dd s.psw)) ∧
      Psw.c q = decide (loByte s.a ≠ 0) ∧ Psw.z q = decide (loByte s.a = 0) ∧ Psw.s q = (-(loByte s.a)).getLsbD 7 ∧
      Psw.ov q = decide (loByte s.a = 0x80) ∧ Psw.hc q = decide ((loByte s.a).toNat % 16 ≠ 0) ∧
      SameBits [15, 14, 13, 11, 9] s.psw q)

/-- MUL and SQR: the 32-bit product in A and ER0; MULB and SQRB: the 16-bit product in A; Z alone, and nothing but ER0 (and DP in
its moving modes) written to memory. -/
def Obligations.MultiplyResult : Prop :=
  ∀ s : State, RegistersPresent s →
    (∀ i p m t l, (i = .mulW p ∨ (i = .sqrA ∧ p = .acc)) → locW p s = .ok (l, t) → rdW l t = .ok m →
      ∃ u lo, exec i s = .next u ∧ erRead u .er0 = .ok lo ∧ u.a.toNat * 0x10000 + lo.toNat = s.a.toNat * m.toNat ∧
        Psw.z u.psw = decide (s.a.toNat * m.toNat = 0) ∧ SameBits [14] s.psw u.psw ∧ Kept s u ∧ u.pc = s.pc ∧
        SameCells (wordBytes 0 (s.rAddr 0)) t u) ∧
    (∀ i p m t l, (i = .mulbB p ∨ (i = .sqrbA ∧ p = .acc)) → locB p s = .ok (l, t) → rdB l t = .ok m →
      ∃ u, exec i s = .next u ∧ u.a.toNat = (loByte s.a).toNat * m.toNat ∧ Psw.z u.psw = decide (u.a = 0) ∧
        SameBits [14] s.psw u.psw ∧ Kept s u ∧ u.pc = s.pc ∧ SameCells [] t u)

/-- DIV, DIVB and DIVQ by a divisor other than 0: quotient and remainder, C 0, Z of the quotient; DIVQ, whose quotient must fit
16 bits here, also clears OV and leaves ER0. -/
def Obligations.DivideResult : Prop :=
  ∀ s : State, RegistersPresent s →
    (∀ p d t l lo n, locW p s = .ok (l, t) → rdW l t = .ok d → erRead t .er0 = .ok lo → d ≠ 0 →
      n = s.a.toNat * 0x10000 + lo.toNat →
      (∃ u q r, exec (.divW p) s = .next u ∧ erRead u .er0 = .ok q ∧ erRead u .er1 = .ok r ∧
        u.a.toNat * 0x10000 + q.toNat = n / d.toNat ∧ r.toNat = n % d.toNat ∧ Psw.c u.psw = false ∧
        Psw.z u.psw = decide (n / d.toNat = 0) ∧ SameBits [15, 14] s.psw u.psw ∧ Kept s u ∧ u.pc = s.pc ∧
        SameCells (wordBytes 0 (s.rAddr 0) ++ wordBytes 0 (s.rAddr 2)) t u) ∧
      (n / d.toNat ≤ 0xFFFF → ∃ u r, exec (.divqW p) s = .next u ∧ erRead u .er1 = .ok r ∧ u.a.toNat = n / d.toNat ∧
        r.toNat = n % d.toNat ∧ Psw.c u.psw = false ∧ Psw.ov u.psw = false ∧ Psw.z u.psw = decide (n / d.toNat = 0) ∧
        SameBits [15, 14, 9] s.psw u.psw ∧ Kept s u ∧ u.pc = s.pc ∧ SameCells (wordBytes 0 (s.rAddr 2)) t u)) ∧
    (∀ p d t l, locB p s = .ok (l, t) → rdB l t = .ok d → d ≠ 0 →
      ∃ u r, exec (.divbB p) s = .next u ∧ rRead u .r1 = .ok r ∧ u.a.toNat = s.a.toNat / d.toNat ∧
        r.toNat = s.a.toNat % d.toNat ∧ Psw.c u.psw = false ∧ Psw.z u.psw = decide (s.a.toNat / d.toNat = 0) ∧
        SameBits [15, 14] s.psw u.psw ∧ Kept s u ∧ u.pc = s.pc ∧ SameCells [key 0 (s.rAddr 1)] t u)

/-- Division by zero completes with C 1, and DIVQ of a quotient beyond 16 bits with C 0 and OV 1; what the spec calls undefined
there (A, the remainder, Z, for DIV the quotient's low word, for DIVQ by zero OV) is free (D19, log 9), and nothing else changes. -/
def Obligations.DivideOpenCases : Prop :=
  ∀ s : State, RegistersPresent s →
    (∀ p t l, locW p s = .ok (l, t) → rdW l t = .ok 0 →
      (∃ u, exec (.divW p) s = .next u ∧ Psw.c u.psw = true ∧ SameBits [15, 14] s.psw u.psw ∧ Kept s u ∧ u.pc = s.pc ∧
        SameCells (wordBytes 0 (s.rAddr 0) ++ wordBytes 0 (s.rAddr 2)) t u) ∧
      (∃ u, exec (.divqW p) s = .next u ∧ Psw.c u.psw = true ∧ SameBits [15, 14, 9] s.psw u.psw ∧ Kept s u ∧
        u.pc = s.pc ∧ SameCells (wordBytes 0 (s.rAddr 2)) t u)) ∧
    (∀ p t l d lo, locW p s = .ok (l, t) → rdW l t = .ok d → d ≠ 0 → erRead t .er0 = .ok lo →
      0xFFFF < (s.a.toNat * 0x10000 + lo.toNat) / d.toNat →
      ∃ u, exec (.divqW p) s = .next u ∧ Psw.c u.psw = false ∧ Psw.ov u.psw = true ∧ SameBits [15, 14, 9] s.psw u.psw ∧
        Kept s u ∧ u.pc = s.pc ∧ SameCells (wordBytes 0 (s.rAddr 2)) t u) ∧
    (∀ p t l, locB p s = .ok (l, t) → rdB l t = .ok 0 →
      ∃ u, exec (.divbB p) s = .next u ∧ Psw.c u.psw = true ∧ SameBits [15, 14] s.psw u.psw ∧ Kept s u ∧ u.pc = s.pc ∧
        SameCells [key 0 (s.rAddr 1)] t u)

/-! ## ROM table reference -/

/-- LC and LCB load A or AL from the table segment with Z and leave DD; CMPC and CMPCB compare with it. -/
def Obligations.TableResult : Prop :=
  ∀ (i : Instr) (s t : State) (cmp : Bool) (p : Option WOp) (base off : Word),
    (match p with
      | some p => ∃ l x, locW p s = .ok (l, t) ∧ rdW l t = .ok x ∧ off = x + base
      | none => t = s ∧ off = base) →
    (∀ v, shapeOf i = some (.tableW cmp p base) → codeReadWord t t.tableSeg off = .ok v →
      exec i s = .next ((if cmp then t.setPsw (aluRun .cmp t.psw t.a v).2
        else (t.setA v).setPsw (Psw.setZ t.psw (v == 0))).setDdFetch (Psw.dd s.psw))) ∧
    (∀ v, shapeOf i = some (.tableB cmp p base) → codeReadByte t t.tableSeg off = .ok v →
      exec i s = .next ((if cmp then t.setPsw (aluRun .cmp t.psw (loByte t.a) v).2
        else (t.setA (mkWord (hiByte t.a) v)).setPsw (Psw.setZ t.psw (v == 0))).setDdFetch (Psw.dd s.psw)))

/-! ## Bits -/

/-- SB, RB (prefix and SBA forms) and MAC set or reset one bit of a byte, with Z the complement of the bit before; `MB *.bit,C`
copies C to the bit and writes no flag. Z before a byte that may go to PSW is the spec's decision D11 (R380, log 20); that MAC runs
as SB, with Z, is an inference of the spec (R481, C48, log 33). -/
def Obligations.BitWriteResult : Prop :=
  ∀ (i : Instr) (s t u : State) (l : Loc) (x : Byte) (bit : Fin 8),
    (∀ v b, shapeOf i = some (.bitSet v b bit) → locBit b s = .ok (l, t) → rdB l t = .ok x →
      wrB l (putBit x bit.val v) (t.setPsw (Psw.setZ t.psw (!x.getLsbD bit.val))) = .ok u →
      exec i s = .next (u.setDdFetch (Psw.dd s.psw))) ∧
    (∀ p, shapeOf i = some (.bitFromC p bit) → locB p s = .ok (l, t) → rdB l t = .ok x →
      wrB l (putBit x bit.val (Psw.c t.psw)) t = .ok u → exec i s = .next (u.setDdFetch (Psw.dd s.psw)))

/-- The bit-to-carry instructions: C becomes the bit, or C combined with the bit or its complement by AND, OR or XOR. -/
def Obligations.BitToCarryResult : Prop :=
  ∀ (s t : State) (l : Loc) (x : Byte) (p : BOp) (bit : Fin 8), locB p s = .ok (l, t) → rdB l t = .ok x →
    let c := Psw.c t.psw
    let b := x.getLsbD bit.val
    let after (r : Bool) := (t.setPsw (Psw.setC t.psw r)).setDdFetch (Psw.dd s.psw)
    exec (.mbCBit p bit) s = .next (after b) ∧ exec (.bandCBit p bit) s = .next (after (c && b)) ∧
    exec (.bandnCBit p bit) s = .next (after (c && !b)) ∧ exec (.borCBit p bit) s = .next (after (c || b)) ∧
    exec (.bornCBit p bit) s = .next (after (c || !b)) ∧ exec (.bxorCBit p bit) s = .next (after (c != b))

/-- The register-indirect bit instructions: AL is the bit number, 0 to 255, in the 32 bytes from the operand up; SBR and RBR write
the bit, TBR tests it, MBR moves it to or from C. Which byte lies above A or PSW is an inference (R392, log 30); Z before a byte that may go to PSW is
the spec's decision D11 (R380, log 20). -/
def Obligations.BitBlockResult : Prop :=
  ∀ (s t u : State) (l m : Loc) (x : Byte) (p : BOp) (k : Nat), locB p s = .ok (l, t) → k = (loByte t.a).toNat →
    m = (match l with
      | .acc => .acc
      | .phys o => .phys (o + BitVec.ofNat 16 (k / 8))
      | .psw h => if h.toNat + k / 8 ≤ 1 then .psw (h || decide (k / 8 = 1))
          else .data (BitVec.ofNat 16 (4 + h.toNat + k / 8))
      | .data o => .data (o + BitVec.ofNat 16 (k / 8))) → rdB m t = .ok x →
    (wrB m (putBit x (k % 8) true) (t.setPsw (Psw.setZ t.psw (!x.getLsbD (k % 8)))) = .ok u →
      exec (.sbrB p) s = .next (u.setDdFetch (Psw.dd s.psw))) ∧
    (wrB m (putBit x (k % 8) false) (t.setPsw (Psw.setZ t.psw (!x.getLsbD (k % 8)))) = .ok u →
      exec (.rbrB p) s = .next (u.setDdFetch (Psw.dd s.psw))) ∧
    exec (.tbrB p) s = .next ((t.setPsw (Psw.setZ t.psw (!x.getLsbD (k % 8)))).setDdFetch (Psw.dd s.psw)) ∧
    exec (.mbrCB p) s = .next ((t.setPsw (Psw.setC t.psw (x.getLsbD (k % 8)))).setDdFetch (Psw.dd s.psw)) ∧
    (wrB m (putBit x (k % 8) (Psw.c t.psw)) t = .ok u → exec (.mbrBC p) s = .next (u.setDdFetch (Psw.dd s.psw)))

/-! ## Jumps, calls and returns -/

/-- The unsigned and signed conditional jumps, with their codes and their cycles (not taken, taken): each completes, and goes to
NextPC plus the displacement exactly when its condition on C, Z, S and OV holds; nothing else changes. -/
def Obligations.ConditionalJumps : Prop :=
  ∀ (s : State) (d : Byte) (dev : Device) (dd : Bool) (rest : List Byte),
    let c := Psw.c s.psw
    let z := Psw.z s.psw
    let n := Psw.s s.psw
    let v := Psw.ov s.psw
    let goes (i : Instr) (taken : Bool) :=
      exec i s = .next ((if taken then s.setPc (s.pc + d.signExtend 16) else s).setDdFetch (Psw.dd s.psw))
    let native (b : Byte) (i : Instr) := decode dev dd (b :: d :: rest) = .ok (i, 2) ∧ cycles dev i = .two 4 6
    let signed (b : Byte) (i : Instr) := decode dev dd (0x8A :: b :: d :: rest) = .ok (i, 3) ∧ cycles dev i = .two 6 10
    (native 0xF0 (.jgt d) ∧ goes (.jgt d) (!z && !c)) ∧ (native 0xF5 (.jge d) ∧ goes (.jge d) (!c)) ∧
    (native 0xF2 (.jlt d) ∧ goes (.jlt d) c) ∧ (native 0xF7 (.jle d) ∧ goes (.jle d) (z || c)) ∧
    (native 0xF1 (.jeq d) ∧ goes (.jeq d) z) ∧ (native 0xF6 (.jne d) ∧ goes (.jne d) (!z)) ∧
    (signed 0xFE (.jgts d) ∧ goes (.jgts d) (!(v ^^ n) && !z)) ∧ (signed 0xFF (.jges d) ∧ goes (.jges d) (!(v ^^ n))) ∧
    (signed 0xFC (.jlts d) ∧ goes (.jlts d) (v ^^ n)) ∧ (signed 0xFD (.jles d) ∧ goes (.jles d) ((v ^^ n) || z)) ∧
    (native 0xF4 (.jps d) ∧ goes (.jps d) (!n)) ∧ (native 0xF3 (.jns d) ∧ goes (.jns d) n)

/-- What the conditions mean after a comparison of x with y at either width: the unsigned jumps compare the values, the signed
ones the two's-complement values. -/
def Obligations.ConditionsAfterCompare : Prop :=
  ∀ (w : Nat) (p : Word) (x y : BitVec w), w = 8 ∨ w = 16 →
    let q := (aluRun .cmp p x y).2
    (Cond.holds .gt q = decide (y.toNat < x.toNat)) ∧ (Cond.holds .ge q = decide (y.toNat ≤ x.toNat)) ∧
    (Cond.holds .lt q = decide (x.toNat < y.toNat)) ∧ (Cond.holds .le q = decide (x.toNat ≤ y.toNat)) ∧
    (Cond.holds .eq q = decide (x = y)) ∧ (Cond.holds .ne q = decide (x ≠ y)) ∧
    (Cond.holds .gts q = decide (y.toInt < x.toInt)) ∧ (Cond.holds .ges q = decide (y.toInt ≤ x.toInt)) ∧
    (Cond.holds .lts q = decide (x.toInt < y.toInt)) ∧ (Cond.holds .les q = decide (x.toInt ≤ y.toInt))

/-- JBS and JBR (prefix and SBA forms), JOV and JNV jump when the bit is 1 or 0 and write nothing; JBSR and JBRS, when they jump,
also flip the bit. TJZ, TJNZ, TJZB and TJNZB jump when the operand is 0, or is not, and write nothing. -/
def Obligations.BitAndTestJumpResult : Prop :=
  ∀ (i : Instr) (s t u : State) (l : Loc) (x : Byte) (bit : Fin 8) (want : Bool) (d : Byte),
    (∀ b, shapeOf i = some (.jumpBit want b bit d) → locBit b s = .ok (l, t) → rdB l t = .ok x →
      exec i s = .next ((if x.getLsbD bit.val = want then t.setPc (t.pc + d.signExtend 16) else t).setDdFetch
        (Psw.dd s.psw))) ∧
    (∀ p, shapeOf i = some (.jumpFlip want p bit d) → locB p s = .ok (l, t) → rdB l t = .ok x →
      (x.getLsbD bit.val ≠ want → exec i s = .next (t.setDdFetch (Psw.dd s.psw))) ∧
      (x.getLsbD bit.val = want → wrB l (putBit x bit.val (!want)) t = .ok u →
        exec i s = .next ((u.setPc (u.pc + d.signExtend 16)).setDdFetch (Psw.dd s.psw)))) ∧
    (∀ p y, shapeOf i = some (.testW want p d) → locW p s = .ok (l, t) → rdW l t = .ok y →
      exec i s = .next ((if (decide (y = 0)) = want then t.setPc (t.pc + d.signExtend 16) else t).setDdFetch
        (Psw.dd s.psw))) ∧
    (∀ p y, shapeOf i = some (.testB want p d) → locB p s = .ok (l, t) → rdB l t = .ok y →
      exec i s = .next ((if (decide (y = 0)) = want then t.setPc (t.pc + d.signExtend 16) else t).setDdFetch
        (Psw.dd s.psw)))

/-- DJNZ and JRNZ DP take 1 from a byte, wrapping, and jump unless it is 0 then; no flag. The two-byte code jumps to NextPC - 128
plus its 7-bit field (an inference, R153, log 31), the others to NextPC plus a signed byte. -/
def Obligations.LoopJumpResult : Prop :=
  ∀ (s u : State) (x : Byte) (off : Word),
    (∀ i (d : BitVec 7), (i = .djnzR4 d ∧ off = s.rAddr 4) ∨ (i = .djnzR5 d ∧ off = s.rAddr 5) →
      memReadByte s 0 off = .ok x → memWriteByte s 0 off (x - 1) = .ok u →
      exec i s = .next ((if x = 1 then u else u.setPc (u.pc - 128 + d.setWidth 16)).setDdFetch (Psw.dd s.psw))) ∧
    (∀ i (d : Byte), (∃ n, i = .djnzPrL n d ∧ off = s.prAddr n) ∨ (i = .jrnzDp d ∧ off = s.prAddr .dp) →
      memReadByte s 0 off = .ok x → memWriteByte s 0 off (x - 1) = .ok u →
      exec i s = .next ((if x = 1 then u else u.setPc (u.pc + d.signExtend 16)).setDdFetch (Psw.dd s.psw))) ∧
    (∀ p t l (d : Byte), locB p s = .ok (l, t) → rdB l t = .ok x → wrB l (x - 1) t = .ok u →
      exec (.djnzB p d) s = .next ((if x = 1 then u else u.setPc (u.pc + d.signExtend 16)).setDdFetch (Psw.dd s.psw)))

/-- SJ and J Cadr, with their codes and cycles: they complete in every state, go to NextPC plus the displacement or to Cadr, and
change neither CSR nor a flag nor anything else. -/
def Obligations.DirectJumps : Prop :=
  ∀ (s : State) (d lo hi : Byte) (dev : Device) (dd : Bool) (rest : List Byte),
    decode dev dd (0x04 :: d :: rest) = .ok (.sj d, 2) ∧ cycles dev (.sj d) = .one 6 ∧
    exec (.sj d) s = .next ((s.setPc (s.pc + d.signExtend 16)).setDdFetch (Psw.dd s.psw)) ∧
    decode dev dd (0x03 :: lo :: hi :: rest) = .ok (.jCadr (mkWord hi lo), 3) ∧ cycles dev (.jCadr (mkWord hi lo)) = .one 7 ∧
    exec (.jCadr (mkWord hi lo)) s = .next ((s.setPc (mkWord hi lo)).setDdFetch (Psw.dd s.psw))

/-- J and CAL through an operand, CAL and SCAL to Cadr, ACAL to 1000H to 17FFH: a call pushes NextPC first; CSR stays. That CAL
through an operand reads its target before the push is the spec's decision D6 (R448, log 17). -/
def Obligations.NearTransferResult : Prop :=
  ∀ (s t u : State) (l : Loc) (v : Word),
    (∀ p, locW p s = .ok (l, t) → rdW l t = .ok v →
      exec (.jInd p) s = .next ((t.setPc v).setDdFetch (Psw.dd s.psw)) ∧
      (push16 t s.pc = .ok u → exec (.calInd p) s = .next ((u.setPc v).setDdFetch (Psw.dd s.psw)))) ∧
    (push16 s s.pc = .ok u →
      exec (.calCadr v) s = .next ((u.setPc v).setDdFetch (Psw.dd s.psw)) ∧
      exec (.scalCadr v) s = .next ((u.setPc v).setDdFetch (Psw.dd s.psw)) ∧
      ∀ (h : Fin 8) (lo : Byte), ∃ target, exec (.acal h lo) s = .next ((u.setPc target).setDdFetch (Psw.dd s.psw)) ∧
        target.toNat = 0x1000 + 0x100 * h.val + lo.toNat)

/-- A return undoes its call: RT after CAL, SCAL, ACAL, and VCAL under the small and compact models, FRT after FCAL and VCAL under
the medium and large models, come back to NextPC in the segment of the call with SSP as it was. -/
def Obligations.ReturnUndoesCall : Prop :=
  ∀ (i : Instr) (s u : State), exec i s = .next u → PlainWord s s.ssp →
    (((∃ v, i = .calCadr v) ∨ (∃ v, i = .scalCadr v) ∨ (∃ h lo, i = .acal h lo) ∨ (∃ p, i = .calInd p) ∨
        ((∃ v, i = .vcal v) ∧ s.farCode = false)) →
      ∃ w, exec .rt u = .next w ∧ w.pc = s.pc ∧ w.csr = s.csr ∧ w.ssp = s.ssp) ∧
    (((∃ v, i = .vcal v) ∨ (∃ seg v, i = .fcal seg v)) → s.farCode = true → PlainWord s (s.ssp - 2) →
      s.csr &&& segMask s.dev.csrBits = s.csr →
      ∃ w, exec .frt u = .next w ∧ w.pc = s.pc ∧ w.csr = s.csr ∧ w.ssp = s.ssp)

/-- VCAL v goes to the word at 0:004AH + 2v: under the small and compact models after a push of NextPC, under the medium and large
models after a push of CSR as well, as a word with high byte 0 (the spec's decision D5, log 16), and in segment 0. -/
def Obligations.VectorCallResult : Prop :=
  ∀ (s t u : State) (v : Fin 16) (w : Word), codeReadWord s 0 (0x4A + 2 * BitVec.ofNat 16 v.val) = .ok w →
    push16 s s.pc = .ok t →
    (s.farCode = false → exec (.vcal v) s = .next ((t.setPc w).setDdFetch (Psw.dd s.psw))) ∧
    (s.farCode = true → push16 t (s.csr.setWidth 16) = .ok u →
      exec (.vcal v) s = .next (((u.setCsrRaw 0).setPc w).setDdFetch (Psw.dd s.psw)))

/-- FCAL, FJ and FRT under the medium and large models: CSR (its implemented bits) and PC become the target's; FCAL first pushes
NextPC and CSR, FRT pops CSR and PC. RT pops PC alone, under every model. The word pushed for CSR is the spec's decision D5
(log 16). -/
def Obligations.FarTransferResult : Prop :=
  ∀ (s t u : State) (seg : Byte) (v c w : Word),
    (s.farCode = true →
      (push16 s s.pc = .ok t → push16 t (s.csr.setWidth 16) = .ok u →
        exec (.fcal seg v) s = .next (((u.setCsrRaw (seg &&& segMask s.dev.csrBits)).setPc v).setDdFetch (Psw.dd s.psw))) ∧
      exec (.fj seg v) s = .next (((s.setCsrRaw (seg &&& segMask s.dev.csrBits)).setPc v).setDdFetch (Psw.dd s.psw)) ∧
      (pop16 s = .ok (c, t) → pop16 t = .ok (w, u) →
        exec .frt s = .next (((u.setCsrRaw (loByte c &&& segMask s.dev.csrBits)).setPc w).setDdFetch (Psw.dd s.psw)))) ∧
    (pop16 s = .ok (w, t) → exec .rt s = .next ((t.setPc w).setDdFetch (Psw.dd s.psw)))

/-- The aliases: SCAL is CAL, JRNZ DP is DJNZ DPL, JOV and JNV are JBS and JBR of PSWH.1 and jump when OV is 1 or 0, MAC is SB of its
bit (an inference of the spec, R481, C48, log 33), in their bytes and in what they do; with the cycles of SCAL, JOV and JNV. -/
def Obligations.AliasesAreTheirCore : Prop :=
  ∀ (dev : Device) (s : State) (v : Word) (d a : Byte) (bit : Fin 8),
    (encode dev (.scalCadr v) = [0xFE, loByte v, hiByte v] ∧ encode dev (.scalCadr v) = encode dev (.calCadr v) ∧
      exec (.scalCadr v) s = exec (.calCadr v) s ∧ cycles dev (.scalCadr v) = .one 9) ∧
    (encode dev (.jrnzDp d) = encode dev (.djnzPrL .dp d) ∧ exec (.jrnzDp d) s = exec (.djnzPrL .dp d) s) ∧
    (encode dev (.jov d) = [0x9A, 0x29, d] ∧ encode dev (.jov d) = encode dev (.jbsBit .pswh 1 d) ∧
      exec (.jov d) s = exec (.jbsBit .pswh 1 d) s ∧ cycles dev (.jov d) = .two 6 10 ∧
      exec (.jov d) s = .next ((if Psw.ov s.psw = true then s.setPc (s.pc + d.signExtend 16) else s).setDdFetch
        (Psw.dd s.psw))) ∧
    (encode dev (.jnv d) = [0x9A, 0x21, d] ∧ encode dev (.jnv d) = encode dev (.jbrBit .pswh 1 d) ∧
      exec (.jnv d) s = exec (.jbrBit .pswh 1 d) s ∧ cycles dev (.jnv d) = .two 6 10 ∧
      exec (.jnv d) s = .next ((if Psw.ov s.psw = false then s.setPc (s.pc + d.signExtend 16) else s).setDdFetch
        (Psw.dd s.psw))) ∧
    (encode dev (.mac a bit) = encode dev (.sbBit (.mem (.sfr a)) bit) ∧
      exec (.mac a bit) s = exec (.sbBit (.mem (.sfr a)) bit) s)

/-! ## Resets and interrupts -/

/-- The four resets leave the machine in its reset state with PC the word at 0000H (RES), 0002H (BRK), 0004H (watchdog) or 0006H
(the op-code trap, which FCAL, FJ and FRT are under the small and compact models); nothing is pushed, program memory stays, and
data memory and LRB stay through the last three on a device that keeps them (log 36); the trap has none of the trapped
instruction's own effects (an inference, log 37). -/
def Obligations.ResetOfEachKind : Prop :=
  ∀ (s : State) (pc : Word),
    (∀ i, i = .brk ∧ codeReadWord s 0 2 = .ok pc ∨
      (s.farCode = false ∧ codeReadWord s 0 6 = .ok pc ∧
        ((∃ seg w, i = .fcal seg w) ∨ (∃ seg w, i = .fj seg w) ∨ i = .frt)) →
      ∃ u, exec i s = .next u ∧ IsReset u ∧ u.pc = pc ∧ u.prog = s.prog ∧ u.dev = s.dev ∧ u.inputs = s.inputs ∧
        (s.dev.warmResetKeepsRam = true → u.data = s.data ∧ u.lrb = s.lrb)) ∧
    (∀ slot rest, s.inputs = slot :: rest →
      (pickEvent (s.setInputs rest) slot = some .res → codeReadWord s 0 0 = .ok pc →
        ∃ u, step s = .next u ∧ IsReset u ∧ u.pc = pc ∧ u.prog = s.prog ∧ u.dev = s.dev ∧ u.inputs = rest) ∧
      (pickEvent (s.setInputs rest) slot = some .wdt → codeReadWord s 0 4 = .ok pc →
        ∃ u, step s = .next u ∧ IsReset u ∧ u.pc = pc ∧ u.prog = s.prog ∧ u.dev = s.dev ∧ u.inputs = rest ∧
          (s.dev.warmResetKeepsRam = true → u.data = s.data ∧ u.lrb = s.lrb)))

/-- The state after reset is a reset state, with nothing in memory. That LRB and PC are 0 in it is the model's choice (logs 1
and 3), not stated here. -/
def Obligations.ResetStateValues : Prop :=
  IsReset State.reset ∧ State.reset.prog = [] ∧ State.reset.data = [] ∧ State.reset.inputs = []

/-- Taking an interrupt: PC, then CSR under the medium and large models, then A, LRB and PSW are pushed; PC becomes the word of the
source's vector, 0008H for the NMI and 0008H + 2k for source k, CSR 0, and DD_FETCH the DD of the new PSW. What the new PSW is the
spec leaves open (D10, log 11); the order of the pushes and DD_FETCH are its decisions D24 and D28 (log 26), the CSR word with high
byte 0 its decision D5 (log 16). -/
def Obligations.InterruptEntry : Prop :=
  ∀ (s : State) (k : Nat) (pc : Word), k ≤ 32 → (∀ j, j < 5 → PlainWord s (s.ssp - BitVec.ofNat 16 (2 * j))) →
    codeReadWord s 0 (BitVec.ofNat 16 (8 + 2 * k)) = .ok pc →
    ∃ u, takeInterrupt s k = .ok u ∧ u.pc = pc ∧ u.csr = 0 ∧ u.ddFetch = Psw.dd u.psw ∧
      u.psw = Config.irqEntryPsw s.dev s.psw k ∧ u.a = s.a ∧ KeptRest s u ∧
      memReadWord u 0 s.ssp = .ok s.pc ∧
      (s.farCode = false → u.ssp = s.ssp - 8 ∧ memReadWord u 0 (s.ssp - 2) = .ok s.a ∧
        memReadWord u 0 (s.ssp - 4) = .ok s.lrb ∧ memReadWord u 0 (s.ssp - 6) = .ok s.psw) ∧
      (s.farCode = true → u.ssp = s.ssp - 10 ∧ memReadWord u 0 (s.ssp - 2) = .ok (s.csr.setWidth 16) ∧
        memReadWord u 0 (s.ssp - 4) = .ok s.a ∧ memReadWord u 0 (s.ssp - 6) = .ok s.lrb ∧
        memReadWord u 0 (s.ssp - 8) = .ok s.psw) ∧
      ∀ a, (∀ j, j < 5 → a ∉ wordBytes 0 (s.ssp - BitVec.ofNat 16 (2 * j))) → u.cell a = s.cell a

/-- RTI restores, from the stack up, PSW, LRB, A, CSR under the medium and large models, and PC, with DD_FETCH the restored DD; and
it undoes an interrupt entry: from the state the entry leaves it comes back to the interrupted PC with PSW, LRB, A, SSP as they
were, CSR too under the medium and large models. The order of the frame and DD_FETCH after RTI are the spec's decisions D24 and
D28 (log 26); that CSR is the low byte of its stacked word is its decision D5 (log 16). -/
def Obligations.RtiResult : Prop :=
  (∀ (s : State) (p l a c pc : Word) (n : Nat), (n = if s.farCode then 5 else 4) →
    (∀ k, 1 ≤ k → k ≤ n → PlainWord s (s.ssp + BitVec.ofNat 16 (2 * k))) →
    memReadWord s 0 (s.ssp + 2) = .ok p → memReadWord s 0 (s.ssp + 4) = .ok l → memReadWord s 0 (s.ssp + 6) = .ok a →
    (s.farCode = true → memReadWord s 0 (s.ssp + 8) = .ok c) →
    memReadWord s 0 (s.ssp + BitVec.ofNat 16 (2 * n)) = .ok pc →
    exec .rti s = .next ((((((((s.setPsw p).setLrb l).setA a).setCsrRaw
      (if s.farCode then loByte c &&& segMask s.dev.csrBits else s.csr)).setPc pc).setSsp
      (s.ssp + BitVec.ofNat 16 (2 * n))).setDdFetch (Psw.dd p)))) ∧
  (∀ (s u : State) (k : Nat), takeInterrupt s k = .ok u → s.csr &&& segMask s.dev.csrBits = s.csr →
    (∀ j, j < 5 → PlainWord s (s.ssp - BitVec.ofNat 16 (2 * j))) →
    ∃ w, exec .rti u = .next w ∧ w.pc = s.pc ∧ w.psw = s.psw ∧ w.lrb = s.lrb ∧ w.a = s.a ∧ w.ssp = s.ssp ∧
      w.ddFetch = Psw.dd s.psw ∧ (s.farCode = true → w.csr = s.csr) ∧ KeptRest s w ∧
      ∀ a, (∀ j, j < 5 → a ∉ wordBytes 0 (s.ssp - BitVec.ofNat 16 (2 * j))) → w.cell a = s.cell a)

/-- What is taken at an instruction boundary: a maskable request only with MIE 1 and from a source of the device, the NMI whatever
MIE is, a reset before anything else, a memory-model setting only as the first and only for a model the device permits, a write by
another bus master only to memory the device has or to an SFR of SFR_MAP; a step that takes an interrupt is its entry, one that takes
a setting makes it, one that takes a bus write changes that byte alone. That events come at boundaries, in this order, are the spec's
decisions D3, D9, D15 and D22 (logs 12, 14 and 23). -/
def Obligations.BoundaryEvents : Prop :=
  ∀ (s : State),
    (∀ k, pickEvent s [.irq k] = if Psw.mie s.psw = true ∧ 1 ≤ k ∧ k ≤ 32 ∧ k ∈ s.dev.irqSources then some (.irq k) else none) ∧
    pickEvent s [.nmi] = some .nmi ∧
    (∀ slot, (.res ∈ slot ∨ .wdt ∈ slot) → pickEvent s slot = some .res ∨ pickEvent s slot = some .wdt) ∧
    (∀ m, pickEvent s [.setModel m] =
      if s.modelSet = false ∧ m ∈ s.dev.modelsPermitted then some (.setModel m) else none) ∧
    (∀ slot rest, s.inputs = slot :: rest →
      (∀ k, pickEvent (s.setInputs rest) slot = some (.irq k) → step s = finish (takeInterrupt (s.setInputs rest) k)) ∧
      (pickEvent (s.setInputs rest) slot = some .nmi → step s = finish (takeInterrupt (s.setInputs rest) 0)) ∧
      (∀ m, pickEvent (s.setInputs rest) slot = some (.setModel m) →
        step s = .next ((s.setInputs rest).setModelRaw m true)) ∧
      (∀ a v, pickEvent (s.setInputs rest) slot = some (.busWrite a v) →
        ∃ t, step s = .next t ∧ t = (s.setInputs rest).setData t.data ∧ t.cell a = some v ∧ SameCells [a] s t)) ∧
    (∀ (a : Nat) (v : Byte),
      (let there := a < 0x1000000 ∧ (if a ≤ 0x1FF then ∃ k, sfrAt s.dev a = .device k else inRanges s.dev.dataPresent a = true)
       (there → pickEvent s [.busWrite a v] = some (.busWrite a v)) ∧ (¬ there → pickEvent s [.busWrite a v] = none)))

/-! ## Other instructions -/

/-- SC, RC and CPL C, with their codes and cycles: C becomes 1, 0 or its complement, and nothing else changes. -/
def Obligations.CarryInstructions : Prop :=
  ∀ (s : State) (dev : Device) (dd : Bool) (rest : List Byte),
    (decode dev dd (0xCB :: rest) = .ok (.sc, 1) ∧ cycles dev .sc = .one 2 ∧
      exec .sc s = .next ((s.setPsw (Psw.setC s.psw true)).setDdFetch (Psw.dd s.psw))) ∧
    (decode dev dd (0xCA :: rest) = .ok (.rc, 1) ∧ cycles dev .rc = .one 2 ∧
      exec .rc s = .next ((s.setPsw (Psw.setC s.psw false)).setDdFetch (Psw.dd s.psw))) ∧
    (decode dev dd (0xFD :: rest) = .ok (.cplC, 1) ∧ cycles dev .cplC = .one 2 ∧
      exec .cplC s = .next ((s.setPsw (Psw.setC s.psw (!Psw.c s.psw))).setDdFetch (Psw.dd s.psw)))

/-- SDD, RDD and EXTND, with their codes and cycles: DD and DD_FETCH become 1 or 0 and nothing else changes; EXTND makes A the
sign extension of AL with S its sign and DD 1, and leaves every other flag. EI and DI write MIE, NOP does nothing. DD_FETCH after
each is R550's. -/
def Obligations.StatusInstructions : Prop :=
  ∀ (s : State) (dev : Device) (dd : Bool) (rest : List Byte),
    (decode dev dd (0xD9 :: rest) = .ok (.sdd, 1) ∧ cycles dev .sdd = .one 2 ∧
      exec .sdd s = .next ((s.setPsw (Psw.setDd s.psw true)).setDdFetch true)) ∧
    (decode dev dd (0xD8 :: rest) = .ok (.rdd, 1) ∧ cycles dev .rdd = .one 2 ∧
      exec .rdd s = .next ((s.setPsw (Psw.setDd s.psw false)).setDdFetch false)) ∧
    exec .ei s = .next ((s.setPsw (Psw.setMie s.psw true)).setDdFetch (Psw.dd s.psw)) ∧
    exec .di s = .next ((s.setPsw (Psw.setMie s.psw false)).setDdFetch (Psw.dd s.psw)) ∧
    (decode dev dd (0xFC :: rest) = .ok (.extnd, 1) ∧ cycles dev .extnd = .one 2 ∧
      exec .extnd s = .next (((s.setA ((loByte s.a).signExtend 16)).setPsw
        (Psw.setDd (Psw.setS s.psw ((loByte s.a).getLsbD 7)) true)).setDdFetch true)) ∧
    exec .nop s = .next (s.setDdFetch (Psw.dd s.psw))

/-- A byte sequence no rule lists stops the machine: a prefix before a suffix no row lists, and the first bytes 54 to 57 (the
spec's decision D1, log 13). -/
def Obligations.UnlistedEncodingsFault : Prop :=
  ∀ (s : State) (x : Byte),
    (∀ p, exec (unlistedW p x) s = .fault .unlistedEncoding) ∧ (∀ p, exec (unlistedB p x) s = .fault .unlistedEncoding) ∧
    (∀ lo, exec (.unassigned lo) s = .fault .unlistedEncoding)

/-! ## What an instruction leaves as it was -/

/-- Every instruction with a shape that answers a next state leaves every byte of data memory but those it stores to, computed from
its own operands, and, in the DP-moving modes, the two bytes of DP. -/
def Obligations.FrameOfMemory : Prop :=
  ∀ (i : Instr) (sh : Shape) (s u : State), shapeOf i = some sh → exec i s = .next u →
    ∀ a, a ∉ sh.stores s → (sh.movesDp = true → a ∉ s.dpBytes) → u.cell a = s.cell a

/-- Every instruction with a shape that answers a next state, unless its result goes to an SFR, leaves every register but A, PSW and
PC, A or AH as its shape says, every bit of PSW but its flags (unless its result goes to a byte of PSW), and PC unless it jumps. -/
def Obligations.FrameOfRegisters : Prop :=
  ∀ (i : Instr) (sh : Shape) (s u : State), shapeOf i = some sh → exec i s = .next u → sh.toSfr s = false →
    Kept s u ∧ u.draws = s.draws ∧ (sh.jumps = false → u.pc = s.pc) ∧
    (sh.writesA s = .no → u.a = s.a) ∧ (sh.writesA s = .low → hiByte u.a = hiByte s.a) ∧
    (sh.toPsw s = false → SameBits sh.flags s.psw u.psw)
end

