-- ==== Sys2Proof/Laws/Bits.lean ====
section
/-! SUPPORT. Laws of the byte and bit operations and of the PSW fields. -/

namespace Sys2Proof.Machine

@[simp] theorem loByte_mkWord (h l : Byte) : loByte (mkWord h l) = l := by
  apply BitVec.eq_of_getLsbD_eq
  intro i hi
  simp only [loByte, mkWord, BitVec.getLsbD_extractLsb', BitVec.getLsbD_append, hi, Nat.zero_add, decide_true, Bool.true_and, if_true]

@[simp] theorem hiByte_mkWord (h l : Byte) : hiByte (mkWord h l) = h := by
  apply BitVec.eq_of_getLsbD_eq
  intro i hi
  simp only [hiByte, mkWord, BitVec.getLsbD_extractLsb', BitVec.getLsbD_append, hi, decide_true, Bool.true_and]
  simp [show ¬ (8 + i < 8) by omega]

@[simp] theorem mkWord_hi_lo (w : Word) : mkWord (hiByte w) (loByte w) = w := by
  apply BitVec.eq_of_getLsbD_eq
  intro i hi
  simp only [hiByte, loByte, mkWord, BitVec.getLsbD_append, BitVec.getLsbD_extractLsb']
  split
  · simp [*]
  · next h => simp [show i - 8 < 8 by omega, show 8 + (i - 8) = i by omega]

@[simp] theorem low7_n7Byte (b : Bool) (n : BitVec 7) : low7 (n7Byte b n) = n := by
  apply BitVec.eq_of_getLsbD_eq
  intro i hi
  simp only [low7, n7Byte, BitVec.getLsbD_extractLsb', BitVec.getLsbD_append, hi, Nat.zero_add, decide_true, Bool.true_and, if_true]

@[simp] theorem bit7_n7Byte (b : Bool) (n : BitVec 7) : bit7 (n7Byte b n) = b := by
  simp only [bit7, n7Byte, BitVec.getLsbD_append]
  cases b <;> rfl

/-- Bit j after bit i is written. -/
theorem getLsbD_putBit {n : Nat} (x : BitVec n) (i j : Nat) (b : Bool) (h : i < n) :
    (putBit x i b).getLsbD j = if j = i then b else x.getLsbD j := by
  unfold putBit
  by_cases hj : j = i
  · subst hj; cases b <;> simp [h]
  · cases b
    · by_cases hjn : j < n
      · simp [hj, hjn]
      · simp [hj, BitVec.getLsbD_of_ge _ _ (Nat.le_of_not_lt hjn)]
    · simp [hj, Ne.symm hj]

/-! ## A field of PSW after a field is written -/

@[simp] theorem Psw.c_setC (p : Word) (b : Bool) : Psw.c (Psw.setC p b) = b := by
  simp only [Psw.c, Psw.setC, getLsbD_putBit _ _ _ _ (by omega : 15 < 16), if_true]
@[simp] theorem Psw.z_setC (p : Word) (b : Bool) : Psw.z (Psw.setC p b) = Psw.z p := by
  simp only [Psw.z, Psw.setC, getLsbD_putBit _ _ _ _ (by omega : 15 < 16), Nat.reduceEqDiff, if_false]
@[simp] theorem Psw.hc_setC (p : Word) (b : Bool) : Psw.hc (Psw.setC p b) = Psw.hc p := by
  simp only [Psw.hc, Psw.setC, getLsbD_putBit _ _ _ _ (by omega : 15 < 16), Nat.reduceEqDiff, if_false]
@[simp] theorem Psw.dd_setC (p : Word) (b : Bool) : Psw.dd (Psw.setC p b) = Psw.dd p := by
  simp only [Psw.dd, Psw.setC, getLsbD_putBit _ _ _ _ (by omega : 15 < 16), Nat.reduceEqDiff, if_false]
@[simp] theorem Psw.s_setC (p : Word) (b : Bool) : Psw.s (Psw.setC p b) = Psw.s p := by
  simp only [Psw.s, Psw.setC, getLsbD_putBit _ _ _ _ (by omega : 15 < 16), Nat.reduceEqDiff, if_false]
@[simp] theorem Psw.mip_setC (p : Word) (b : Bool) : Psw.mip (Psw.setC p b) = Psw.mip p := by
  simp only [Psw.mip, Psw.setC, getLsbD_putBit _ _ _ _ (by omega : 15 < 16), Nat.reduceEqDiff, if_false]
@[simp] theorem Psw.ov_setC (p : Word) (b : Bool) : Psw.ov (Psw.setC p b) = Psw.ov p := by
  simp only [Psw.ov, Psw.setC, getLsbD_putBit _ _ _ _ (by omega : 15 < 16), Nat.reduceEqDiff, if_false]
@[simp] theorem Psw.mie_setC (p : Word) (b : Bool) : Psw.mie (Psw.setC p b) = Psw.mie p := by
  simp only [Psw.mie, Psw.setC, getLsbD_putBit _ _ _ _ (by omega : 15 < 16), Nat.reduceEqDiff, if_false]
@[simp] theorem Psw.mab_setC (p : Word) (b : Bool) : Psw.mab (Psw.setC p b) = Psw.mab p := by
  simp only [Psw.mab, Psw.setC, getLsbD_putBit _ _ _ _ (by omega : 15 < 16), Nat.reduceEqDiff, if_false]
@[simp] theorem Psw.f1_setC (p : Word) (b : Bool) : Psw.f1 (Psw.setC p b) = Psw.f1 p := by
  simp only [Psw.f1, Psw.setC, getLsbD_putBit _ _ _ _ (by omega : 15 < 16), Nat.reduceEqDiff, if_false]
@[simp] theorem Psw.f0_setC (p : Word) (b : Bool) : Psw.f0 (Psw.setC p b) = Psw.f0 p := by
  simp only [Psw.f0, Psw.setC, getLsbD_putBit _ _ _ _ (by omega : 15 < 16), Nat.reduceEqDiff, if_false]
@[simp] theorem Psw.bcb_setC (p : Word) (b : Bool) : Psw.bcb (Psw.setC p b) = Psw.bcb p := by
  apply BitVec.eq_of_getLsbD_eq
  intro i hi
  simp only [Psw.bcb, Psw.setC, BitVec.getLsbD_extractLsb', hi, decide_true, Bool.true_and]
  rw [getLsbD_putBit _ _ _ _ (by omega), if_neg (by omega)]
@[simp] theorem Psw.scb_setC (p : Word) (b : Bool) : Psw.scb (Psw.setC p b) = Psw.scb p := by
  apply BitVec.eq_of_getLsbD_eq
  intro i hi
  simp only [Psw.scb, Psw.setC, BitVec.getLsbD_extractLsb', hi, decide_true, Bool.true_and]
  rw [getLsbD_putBit _ _ _ _ (by omega), if_neg (by omega)]

@[simp] theorem Psw.c_setZ (p : Word) (b : Bool) : Psw.c (Psw.setZ p b) = Psw.c p := by
  simp only [Psw.c, Psw.setZ, getLsbD_putBit _ _ _ _ (by omega : 14 < 16), Nat.reduceEqDiff, if_false]
@[simp] theorem Psw.z_setZ (p : Word) (b : Bool) : Psw.z (Psw.setZ p b) = b := by
  simp only [Psw.z, Psw.setZ, getLsbD_putBit _ _ _ _ (by omega : 14 < 16), if_true]
@[simp] theorem Psw.hc_setZ (p : Word) (b : Bool) : Psw.hc (Psw.setZ p b) = Psw.hc p := by
  simp only [Psw.hc, Psw.setZ, getLsbD_putBit _ _ _ _ (by omega : 14 < 16), Nat.reduceEqDiff, if_false]
@[simp] theorem Psw.dd_setZ (p : Word) (b : Bool) : Psw.dd (Psw.setZ p b) = Psw.dd p := by
  simp only [Psw.dd, Psw.setZ, getLsbD_putBit _ _ _ _ (by omega : 14 < 16), Nat.reduceEqDiff, if_false]
@[simp] theorem Psw.s_setZ (p : Word) (b : Bool) : Psw.s (Psw.setZ p b) = Psw.s p := by
  simp only [Psw.s, Psw.setZ, getLsbD_putBit _ _ _ _ (by omega : 14 < 16), Nat.reduceEqDiff, if_false]
@[simp] theorem Psw.mip_setZ (p : Word) (b : Bool) : Psw.mip (Psw.setZ p b) = Psw.mip p := by
  simp only [Psw.mip, Psw.setZ, getLsbD_putBit _ _ _ _ (by omega : 14 < 16), Nat.reduceEqDiff, if_false]
@[simp] theorem Psw.ov_setZ (p : Word) (b : Bool) : Psw.ov (Psw.setZ p b) = Psw.ov p := by
  simp only [Psw.ov, Psw.setZ, getLsbD_putBit _ _ _ _ (by omega : 14 < 16), Nat.reduceEqDiff, if_false]
@[simp] theorem Psw.mie_setZ (p : Word) (b : Bool) : Psw.mie (Psw.setZ p b) = Psw.mie p := by
  simp only [Psw.mie, Psw.setZ, getLsbD_putBit _ _ _ _ (by omega : 14 < 16), Nat.reduceEqDiff, if_false]
@[simp] theorem Psw.mab_setZ (p : Word) (b : Bool) : Psw.mab (Psw.setZ p b) = Psw.mab p := by
  simp only [Psw.mab, Psw.setZ, getLsbD_putBit _ _ _ _ (by omega : 14 < 16), Nat.reduceEqDiff, if_false]
@[simp] theorem Psw.f1_setZ (p : Word) (b : Bool) : Psw.f1 (Psw.setZ p b) = Psw.f1 p := by
  simp only [Psw.f1, Psw.setZ, getLsbD_putBit _ _ _ _ (by omega : 14 < 16), Nat.reduceEqDiff, if_false]
@[simp] theorem Psw.f0_setZ (p : Word) (b : Bool) : Psw.f0 (Psw.setZ p b) = Psw.f0 p := by
  simp only [Psw.f0, Psw.setZ, getLsbD_putBit _ _ _ _ (by omega : 14 < 16), Nat.reduceEqDiff, if_false]
@[simp] theorem Psw.bcb_setZ (p : Word) (b : Bool) : Psw.bcb (Psw.setZ p b) = Psw.bcb p := by
  apply BitVec.eq_of_getLsbD_eq
  intro i hi
  simp only [Psw.bcb, Psw.setZ, BitVec.getLsbD_extractLsb', hi, decide_true, Bool.true_and]
  rw [getLsbD_putBit _ _ _ _ (by omega), if_neg (by omega)]
@[simp] theorem Psw.scb_setZ (p : Word) (b : Bool) : Psw.scb (Psw.setZ p b) = Psw.scb p := by
  apply BitVec.eq_of_getLsbD_eq
  intro i hi
  simp only [Psw.scb, Psw.setZ, BitVec.getLsbD_extractLsb', hi, decide_true, Bool.true_and]
  rw [getLsbD_putBit _ _ _ _ (by omega), if_neg (by omega)]

@[simp] theorem Psw.c_setHc (p : Word) (b : Bool) : Psw.c (Psw.setHc p b) = Psw.c p := by
  simp only [Psw.c, Psw.setHc, getLsbD_putBit _ _ _ _ (by omega : 13 < 16), Nat.reduceEqDiff, if_false]
@[simp] theorem Psw.z_setHc (p : Word) (b : Bool) : Psw.z (Psw.setHc p b) = Psw.z p := by
  simp only [Psw.z, Psw.setHc, getLsbD_putBit _ _ _ _ (by omega : 13 < 16), Nat.reduceEqDiff, if_false]
@[simp] theorem Psw.hc_setHc (p : Word) (b : Bool) : Psw.hc (Psw.setHc p b) = b := by
  simp only [Psw.hc, Psw.setHc, getLsbD_putBit _ _ _ _ (by omega : 13 < 16), if_true]
@[simp] theorem Psw.dd_setHc (p : Word) (b : Bool) : Psw.dd (Psw.setHc p b) = Psw.dd p := by
  simp only [Psw.dd, Psw.setHc, getLsbD_putBit _ _ _ _ (by omega : 13 < 16), Nat.reduceEqDiff, if_false]
@[simp] theorem Psw.s_setHc (p : Word) (b : Bool) : Psw.s (Psw.setHc p b) = Psw.s p := by
  simp only [Psw.s, Psw.setHc, getLsbD_putBit _ _ _ _ (by omega : 13 < 16), Nat.reduceEqDiff, if_false]
@[simp] theorem Psw.mip_setHc (p : Word) (b : Bool) : Psw.mip (Psw.setHc p b) = Psw.mip p := by
  simp only [Psw.mip, Psw.setHc, getLsbD_putBit _ _ _ _ (by omega : 13 < 16), Nat.reduceEqDiff, if_false]
@[simp] theorem Psw.ov_setHc (p : Word) (b : Bool) : Psw.ov (Psw.setHc p b) = Psw.ov p := by
  simp only [Psw.ov, Psw.setHc, getLsbD_putBit _ _ _ _ (by omega : 13 < 16), Nat.reduceEqDiff, if_false]
@[simp] theorem Psw.mie_setHc (p : Word) (b : Bool) : Psw.mie (Psw.setHc p b) = Psw.mie p := by
  simp only [Psw.mie, Psw.setHc, getLsbD_putBit _ _ _ _ (by omega : 13 < 16), Nat.reduceEqDiff, if_false]
@[simp] theorem Psw.mab_setHc (p : Word) (b : Bool) : Psw.mab (Psw.setHc p b) = Psw.mab p := by
  simp only [Psw.mab, Psw.setHc, getLsbD_putBit _ _ _ _ (by omega : 13 < 16), Nat.reduceEqDiff, if_false]
@[simp] theorem Psw.f1_setHc (p : Word) (b : Bool) : Psw.f1 (Psw.setHc p b) = Psw.f1 p := by
  simp only [Psw.f1, Psw.setHc, getLsbD_putBit _ _ _ _ (by omega : 13 < 16), Nat.reduceEqDiff, if_false]
@[simp] theorem Psw.f0_setHc (p : Word) (b : Bool) : Psw.f0 (Psw.setHc p b) = Psw.f0 p := by
  simp only [Psw.f0, Psw.setHc, getLsbD_putBit _ _ _ _ (by omega : 13 < 16), Nat.reduceEqDiff, if_false]
@[simp] theorem Psw.bcb_setHc (p : Word) (b : Bool) : Psw.bcb (Psw.setHc p b) = Psw.bcb p := by
  apply BitVec.eq_of_getLsbD_eq
  intro i hi
  simp only [Psw.bcb, Psw.setHc, BitVec.getLsbD_extractLsb', hi, decide_true, Bool.true_and]
  rw [getLsbD_putBit _ _ _ _ (by omega), if_neg (by omega)]
@[simp] theorem Psw.scb_setHc (p : Word) (b : Bool) : Psw.scb (Psw.setHc p b) = Psw.scb p := by
  apply BitVec.eq_of_getLsbD_eq
  intro i hi
  simp only [Psw.scb, Psw.setHc, BitVec.getLsbD_extractLsb', hi, decide_true, Bool.true_and]
  rw [getLsbD_putBit _ _ _ _ (by omega), if_neg (by omega)]

@[simp] theorem Psw.c_setDd (p : Word) (b : Bool) : Psw.c (Psw.setDd p b) = Psw.c p := by
  simp only [Psw.c, Psw.setDd, getLsbD_putBit _ _ _ _ (by omega : 12 < 16), Nat.reduceEqDiff, if_false]
@[simp] theorem Psw.z_setDd (p : Word) (b : Bool) : Psw.z (Psw.setDd p b) = Psw.z p := by
  simp only [Psw.z, Psw.setDd, getLsbD_putBit _ _ _ _ (by omega : 12 < 16), Nat.reduceEqDiff, if_false]
@[simp] theorem Psw.hc_setDd (p : Word) (b : Bool) : Psw.hc (Psw.setDd p b) = Psw.hc p := by
  simp only [Psw.hc, Psw.setDd, getLsbD_putBit _ _ _ _ (by omega : 12 < 16), Nat.reduceEqDiff, if_false]
@[simp] theorem Psw.dd_setDd (p : Word) (b : Bool) : Psw.dd (Psw.setDd p b) = b := by
  simp only [Psw.dd, Psw.setDd, getLsbD_putBit _ _ _ _ (by omega : 12 < 16), if_true]
@[simp] theorem Psw.s_setDd (p : Word) (b : Bool) : Psw.s (Psw.setDd p b) = Psw.s p := by
  simp only [Psw.s, Psw.setDd, getLsbD_putBit _ _ _ _ (by omega : 12 < 16), Nat.reduceEqDiff, if_false]
@[simp] theorem Psw.mip_setDd (p : Word) (b : Bool) : Psw.mip (Psw.setDd p b) = Psw.mip p := by
  simp only [Psw.mip, Psw.setDd, getLsbD_putBit _ _ _ _ (by omega : 12 < 16), Nat.reduceEqDiff, if_false]
@[simp] theorem Psw.ov_setDd (p : Word) (b : Bool) : Psw.ov (Psw.setDd p b) = Psw.ov p := by
  simp only [Psw.ov, Psw.setDd, getLsbD_putBit _ _ _ _ (by omega : 12 < 16), Nat.reduceEqDiff, if_false]
@[simp] theorem Psw.mie_setDd (p : Word) (b : Bool) : Psw.mie (Psw.setDd p b) = Psw.mie p := by
  simp only [Psw.mie, Psw.setDd, getLsbD_putBit _ _ _ _ (by omega : 12 < 16), Nat.reduceEqDiff, if_false]
@[simp] theorem Psw.mab_setDd (p : Word) (b : Bool) : Psw.mab (Psw.setDd p b) = Psw.mab p := by
  simp only [Psw.mab, Psw.setDd, getLsbD_putBit _ _ _ _ (by omega : 12 < 16), Nat.reduceEqDiff, if_false]
@[simp] theorem Psw.f1_setDd (p : Word) (b : Bool) : Psw.f1 (Psw.setDd p b) = Psw.f1 p := by
  simp only [Psw.f1, Psw.setDd, getLsbD_putBit _ _ _ _ (by omega : 12 < 16), Nat.reduceEqDiff, if_false]
@[simp] theorem Psw.f0_setDd (p : Word) (b : Bool) : Psw.f0 (Psw.setDd p b) = Psw.f0 p := by
  simp only [Psw.f0, Psw.setDd, getLsbD_putBit _ _ _ _ (by omega : 12 < 16), Nat.reduceEqDiff, if_false]
@[simp] theorem Psw.bcb_setDd (p : Word) (b : Bool) : Psw.bcb (Psw.setDd p b) = Psw.bcb p := by
  apply BitVec.eq_of_getLsbD_eq
  intro i hi
  simp only [Psw.bcb, Psw.setDd, BitVec.getLsbD_extractLsb', hi, decide_true, Bool.true_and]
  rw [getLsbD_putBit _ _ _ _ (by omega), if_neg (by omega)]
@[simp] theorem Psw.scb_setDd (p : Word) (b : Bool) : Psw.scb (Psw.setDd p b) = Psw.scb p := by
  apply BitVec.eq_of_getLsbD_eq
  intro i hi
  simp only [Psw.scb, Psw.setDd, BitVec.getLsbD_extractLsb', hi, decide_true, Bool.true_and]
  rw [getLsbD_putBit _ _ _ _ (by omega), if_neg (by omega)]

@[simp] theorem Psw.c_setS (p : Word) (b : Bool) : Psw.c (Psw.setS p b) = Psw.c p := by
  simp only [Psw.c, Psw.setS, getLsbD_putBit _ _ _ _ (by omega : 11 < 16), Nat.reduceEqDiff, if_false]
@[simp] theorem Psw.z_setS (p : Word) (b : Bool) : Psw.z (Psw.setS p b) = Psw.z p := by
  simp only [Psw.z, Psw.setS, getLsbD_putBit _ _ _ _ (by omega : 11 < 16), Nat.reduceEqDiff, if_false]
@[simp] theorem Psw.hc_setS (p : Word) (b : Bool) : Psw.hc (Psw.setS p b) = Psw.hc p := by
  simp only [Psw.hc, Psw.setS, getLsbD_putBit _ _ _ _ (by omega : 11 < 16), Nat.reduceEqDiff, if_false]
@[simp] theorem Psw.dd_setS (p : Word) (b : Bool) : Psw.dd (Psw.setS p b) = Psw.dd p := by
  simp only [Psw.dd, Psw.setS, getLsbD_putBit _ _ _ _ (by omega : 11 < 16), Nat.reduceEqDiff, if_false]
@[simp] theorem Psw.s_setS (p : Word) (b : Bool) : Psw.s (Psw.setS p b) = b := by
  simp only [Psw.s, Psw.setS, getLsbD_putBit _ _ _ _ (by omega : 11 < 16), if_true]
@[simp] theorem Psw.mip_setS (p : Word) (b : Bool) : Psw.mip (Psw.setS p b) = Psw.mip p := by
  simp only [Psw.mip, Psw.setS, getLsbD_putBit _ _ _ _ (by omega : 11 < 16), Nat.reduceEqDiff, if_false]
@[simp] theorem Psw.ov_setS (p : Word) (b : Bool) : Psw.ov (Psw.setS p b) = Psw.ov p := by
  simp only [Psw.ov, Psw.setS, getLsbD_putBit _ _ _ _ (by omega : 11 < 16), Nat.reduceEqDiff, if_false]
@[simp] theorem Psw.mie_setS (p : Word) (b : Bool) : Psw.mie (Psw.setS p b) = Psw.mie p := by
  simp only [Psw.mie, Psw.setS, getLsbD_putBit _ _ _ _ (by omega : 11 < 16), Nat.reduceEqDiff, if_false]
@[simp] theorem Psw.mab_setS (p : Word) (b : Bool) : Psw.mab (Psw.setS p b) = Psw.mab p := by
  simp only [Psw.mab, Psw.setS, getLsbD_putBit _ _ _ _ (by omega : 11 < 16), Nat.reduceEqDiff, if_false]
@[simp] theorem Psw.f1_setS (p : Word) (b : Bool) : Psw.f1 (Psw.setS p b) = Psw.f1 p := by
  simp only [Psw.f1, Psw.setS, getLsbD_putBit _ _ _ _ (by omega : 11 < 16), Nat.reduceEqDiff, if_false]
@[simp] theorem Psw.f0_setS (p : Word) (b : Bool) : Psw.f0 (Psw.setS p b) = Psw.f0 p := by
  simp only [Psw.f0, Psw.setS, getLsbD_putBit _ _ _ _ (by omega : 11 < 16), Nat.reduceEqDiff, if_false]
@[simp] theorem Psw.bcb_setS (p : Word) (b : Bool) : Psw.bcb (Psw.setS p b) = Psw.bcb p := by
  apply BitVec.eq_of_getLsbD_eq
  intro i hi
  simp only [Psw.bcb, Psw.setS, BitVec.getLsbD_extractLsb', hi, decide_true, Bool.true_and]
  rw [getLsbD_putBit _ _ _ _ (by omega), if_neg (by omega)]
@[simp] theorem Psw.scb_setS (p : Word) (b : Bool) : Psw.scb (Psw.setS p b) = Psw.scb p := by
  apply BitVec.eq_of_getLsbD_eq
  intro i hi
  simp only [Psw.scb, Psw.setS, BitVec.getLsbD_extractLsb', hi, decide_true, Bool.true_and]
  rw [getLsbD_putBit _ _ _ _ (by omega), if_neg (by omega)]

@[simp] theorem Psw.c_setOv (p : Word) (b : Bool) : Psw.c (Psw.setOv p b) = Psw.c p := by
  simp only [Psw.c, Psw.setOv, getLsbD_putBit _ _ _ _ (by omega : 9 < 16), Nat.reduceEqDiff, if_false]
@[simp] theorem Psw.z_setOv (p : Word) (b : Bool) : Psw.z (Psw.setOv p b) = Psw.z p := by
  simp only [Psw.z, Psw.setOv, getLsbD_putBit _ _ _ _ (by omega : 9 < 16), Nat.reduceEqDiff, if_false]
@[simp] theorem Psw.hc_setOv (p : Word) (b : Bool) : Psw.hc (Psw.setOv p b) = Psw.hc p := by
  simp only [Psw.hc, Psw.setOv, getLsbD_putBit _ _ _ _ (by omega : 9 < 16), Nat.reduceEqDiff, if_false]
@[simp] theorem Psw.dd_setOv (p : Word) (b : Bool) : Psw.dd (Psw.setOv p b) = Psw.dd p := by
  simp only [Psw.dd, Psw.setOv, getLsbD_putBit _ _ _ _ (by omega : 9 < 16), Nat.reduceEqDiff, if_false]
@[simp] theorem Psw.s_setOv (p : Word) (b : Bool) : Psw.s (Psw.setOv p b) = Psw.s p := by
  simp only [Psw.s, Psw.setOv, getLsbD_putBit _ _ _ _ (by omega : 9 < 16), Nat.reduceEqDiff, if_false]
@[simp] theorem Psw.mip_setOv (p : Word) (b : Bool) : Psw.mip (Psw.setOv p b) = Psw.mip p := by
  simp only [Psw.mip, Psw.setOv, getLsbD_putBit _ _ _ _ (by omega : 9 < 16), Nat.reduceEqDiff, if_false]
@[simp] theorem Psw.ov_setOv (p : Word) (b : Bool) : Psw.ov (Psw.setOv p b) = b := by
  simp only [Psw.ov, Psw.setOv, getLsbD_putBit _ _ _ _ (by omega : 9 < 16), if_true]
@[simp] theorem Psw.mie_setOv (p : Word) (b : Bool) : Psw.mie (Psw.setOv p b) = Psw.mie p := by
  simp only [Psw.mie, Psw.setOv, getLsbD_putBit _ _ _ _ (by omega : 9 < 16), Nat.reduceEqDiff, if_false]
@[simp] theorem Psw.mab_setOv (p : Word) (b : Bool) : Psw.mab (Psw.setOv p b) = Psw.mab p := by
  simp only [Psw.mab, Psw.setOv, getLsbD_putBit _ _ _ _ (by omega : 9 < 16), Nat.reduceEqDiff, if_false]
@[simp] theorem Psw.f1_setOv (p : Word) (b : Bool) : Psw.f1 (Psw.setOv p b) = Psw.f1 p := by
  simp only [Psw.f1, Psw.setOv, getLsbD_putBit _ _ _ _ (by omega : 9 < 16), Nat.reduceEqDiff, if_false]
@[simp] theorem Psw.f0_setOv (p : Word) (b : Bool) : Psw.f0 (Psw.setOv p b) = Psw.f0 p := by
  simp only [Psw.f0, Psw.setOv, getLsbD_putBit _ _ _ _ (by omega : 9 < 16), Nat.reduceEqDiff, if_false]
@[simp] theorem Psw.bcb_setOv (p : Word) (b : Bool) : Psw.bcb (Psw.setOv p b) = Psw.bcb p := by
  apply BitVec.eq_of_getLsbD_eq
  intro i hi
  simp only [Psw.bcb, Psw.setOv, BitVec.getLsbD_extractLsb', hi, decide_true, Bool.true_and]
  rw [getLsbD_putBit _ _ _ _ (by omega), if_neg (by omega)]
@[simp] theorem Psw.scb_setOv (p : Word) (b : Bool) : Psw.scb (Psw.setOv p b) = Psw.scb p := by
  apply BitVec.eq_of_getLsbD_eq
  intro i hi
  simp only [Psw.scb, Psw.setOv, BitVec.getLsbD_extractLsb', hi, decide_true, Bool.true_and]
  rw [getLsbD_putBit _ _ _ _ (by omega), if_neg (by omega)]

@[simp] theorem Psw.c_setMie (p : Word) (b : Bool) : Psw.c (Psw.setMie p b) = Psw.c p := by
  simp only [Psw.c, Psw.setMie, getLsbD_putBit _ _ _ _ (by omega : 8 < 16), Nat.reduceEqDiff, if_false]
@[simp] theorem Psw.z_setMie (p : Word) (b : Bool) : Psw.z (Psw.setMie p b) = Psw.z p := by
  simp only [Psw.z, Psw.setMie, getLsbD_putBit _ _ _ _ (by omega : 8 < 16), Nat.reduceEqDiff, if_false]
@[simp] theorem Psw.hc_setMie (p : Word) (b : Bool) : Psw.hc (Psw.setMie p b) = Psw.hc p := by
  simp only [Psw.hc, Psw.setMie, getLsbD_putBit _ _ _ _ (by omega : 8 < 16), Nat.reduceEqDiff, if_false]
@[simp] theorem Psw.dd_setMie (p : Word) (b : Bool) : Psw.dd (Psw.setMie p b) = Psw.dd p := by
  simp only [Psw.dd, Psw.setMie, getLsbD_putBit _ _ _ _ (by omega : 8 < 16), Nat.reduceEqDiff, if_false]
@[simp] theorem Psw.s_setMie (p : Word) (b : Bool) : Psw.s (Psw.setMie p b) = Psw.s p := by
  simp only [Psw.s, Psw.setMie, getLsbD_putBit _ _ _ _ (by omega : 8 < 16), Nat.reduceEqDiff, if_false]
@[simp] theorem Psw.mip_setMie (p : Word) (b : Bool) : Psw.mip (Psw.setMie p b) = Psw.mip p := by
  simp only [Psw.mip, Psw.setMie, getLsbD_putBit _ _ _ _ (by omega : 8 < 16), Nat.reduceEqDiff, if_false]
@[simp] theorem Psw.ov_setMie (p : Word) (b : Bool) : Psw.ov (Psw.setMie p b) = Psw.ov p := by
  simp only [Psw.ov, Psw.setMie, getLsbD_putBit _ _ _ _ (by omega : 8 < 16), Nat.reduceEqDiff, if_false]
@[simp] theorem Psw.mie_setMie (p : Word) (b : Bool) : Psw.mie (Psw.setMie p b) = b := by
  simp only [Psw.mie, Psw.setMie, getLsbD_putBit _ _ _ _ (by omega : 8 < 16), if_true]
@[simp] theorem Psw.mab_setMie (p : Word) (b : Bool) : Psw.mab (Psw.setMie p b) = Psw.mab p := by
  simp only [Psw.mab, Psw.setMie, getLsbD_putBit _ _ _ _ (by omega : 8 < 16), Nat.reduceEqDiff, if_false]
@[simp] theorem Psw.f1_setMie (p : Word) (b : Bool) : Psw.f1 (Psw.setMie p b) = Psw.f1 p := by
  simp only [Psw.f1, Psw.setMie, getLsbD_putBit _ _ _ _ (by omega : 8 < 16), Nat.reduceEqDiff, if_false]
@[simp] theorem Psw.f0_setMie (p : Word) (b : Bool) : Psw.f0 (Psw.setMie p b) = Psw.f0 p := by
  simp only [Psw.f0, Psw.setMie, getLsbD_putBit _ _ _ _ (by omega : 8 < 16), Nat.reduceEqDiff, if_false]
@[simp] theorem Psw.bcb_setMie (p : Word) (b : Bool) : Psw.bcb (Psw.setMie p b) = Psw.bcb p := by
  apply BitVec.eq_of_getLsbD_eq
  intro i hi
  simp only [Psw.bcb, Psw.setMie, BitVec.getLsbD_extractLsb', hi, decide_true, Bool.true_and]
  rw [getLsbD_putBit _ _ _ _ (by omega), if_neg (by omega)]
@[simp] theorem Psw.scb_setMie (p : Word) (b : Bool) : Psw.scb (Psw.setMie p b) = Psw.scb p := by
  apply BitVec.eq_of_getLsbD_eq
  intro i hi
  simp only [Psw.scb, Psw.setMie, BitVec.getLsbD_extractLsb', hi, decide_true, Bool.true_and]
  rw [getLsbD_putBit _ _ _ _ (by omega), if_neg (by omega)]

end Sys2Proof.Machine
end

