-- ==== Sys2Proof/Laws/Decode.lean ====
section
/-! SUPPORT. What the decoder does behind the bytes of a prefix, said once: a proof about one composite instruction needs its
suffix alone. -/

namespace Sys2Proof

open Sys2Proof.Machine

/-- The bytes of a word prefix lead to the word suffix map. -/
theorem decode_encodeW (dev : Device) (dd : Bool) (p : WOp) (h : p.notAcc = true) (s : Byte) (t : List Byte) :
    decode dev dd (encodeW p ++ s :: t) = suffixW ((encodeW p).length + 1) p s t := by
  cases p with
  | acc => simp [WOp.notAcc] at h
  | er n => cases n <;> rfl
  | pr n => cases n <;> rfl
  | mem m =>
    cases m
    case dir w =>
      show thenW 3 (.mem (.dir (mkWord (hiByte w) (loByte w)))) (s :: t) = _
      rw [mkWord_hi_lo]; rfl
    case d16x1 w =>
      show thenW 3 (.mem (.d16x1 (mkWord (hiByte w) (loByte w)))) (s :: t) = _
      rw [mkWord_hi_lo]; rfl
    case d16x2 w =>
      show thenW 3 (.mem (.d16x2 (mkWord (hiByte w) (loByte w)))) (s :: t) = _
      rw [mkWord_hi_lo]; rfl
    case n7dp n =>
      show thenW 2 (.mem (if bit7 (n7Byte false n) then .n7usp (low7 (n7Byte false n))
        else .n7dp (low7 (n7Byte false n)))) (s :: t) = _
      rw [low7_n7Byte, bit7_n7Byte]; rfl
    case n7usp n =>
      show thenW 2 (.mem (if bit7 (n7Byte true n) then .n7usp (low7 (n7Byte true n))
        else .n7dp (low7 (n7Byte true n)))) (s :: t) = _
      rw [low7_n7Byte, bit7_n7Byte]; rfl
    all_goals rfl

/-- The bytes of a byte prefix lead to the byte suffix map. -/
theorem decode_encodeB (dev : Device) (dd : Bool) (p : BOp) (h : p.notAcc = true) (s : Byte) (t : List Byte) :
    decode dev dd (encodeB p ++ s :: t) = suffixB ((encodeB p).length + 1) p s t := by
  cases p with
  | acc => simp [BOp.notAcc] at h
  | r n => cases n <;> rfl
  | pswl => rfl
  | pswh => rfl
  | mem m =>
    cases m
    case dir w =>
      show thenB 3 (.mem (.dir (mkWord (hiByte w) (loByte w)))) (s :: t) = _
      rw [mkWord_hi_lo]; rfl
    case d16x1 w =>
      show thenB 3 (.mem (.d16x1 (mkWord (hiByte w) (loByte w)))) (s :: t) = _
      rw [mkWord_hi_lo]; rfl
    case d16x2 w =>
      show thenB 3 (.mem (.d16x2 (mkWord (hiByte w) (loByte w)))) (s :: t) = _
      rw [mkWord_hi_lo]; rfl
    case n7dp n =>
      show thenB 2 (.mem (if bit7 (n7Byte false n) then .n7usp (low7 (n7Byte false n))
        else .n7dp (low7 (n7Byte false n)))) (s :: t) = _
      rw [low7_n7Byte, bit7_n7Byte]; rfl
    case n7usp n =>
      show thenB 2 (.mem (if bit7 (n7Byte true n) then .n7usp (low7 (n7Byte true n))
        else .n7dp (low7 (n7Byte true n)))) (s :: t) = _
      rw [low7_n7Byte, bit7_n7Byte]; rfl
    all_goals rfl

/-- The accumulator prefix leads to its own map. -/
theorem decode_BC (dev : Device) (dd : Bool) (s : Byte) (t : List Byte) :
    decode dev dd (0xBC :: s :: t) = suffixBC dd s t := rfl

@[simp] theorem low6_sbaByte (op : BitVec 2) (k : BitVec 6) : low6 (sbaByte op k) = k := by
  revert op k; decide

@[simp] theorem sbaByte_div (op : BitVec 2) (k : BitVec 6) : (sbaByte op k).toNat / 64 = op.toNat := by
  revert op k; decide

theorem maskOf_eq_find (t : List RegMaskEntry) (d : StackDir) (l : RegList) :
    maskOf t d l = (t.find? fun e => decide (e.dir = d) && decide (e.list = l)).map (·.mask) := by
  induction t with
  | nil => rfl
  | cons e t ih =>
    simp only [maskOf, List.find?_cons]
    by_cases h : e.dir = d <;> by_cases h' : e.list = l <;> simp_all

theorem maskLookup_eq_find (t : List RegMaskEntry) (m : Byte) :
    maskLookup t m = (t.find? fun f => decide (f.mask = m)).map (fun e => (e.dir, e.list)) := by
  induction t with
  | nil => rfl
  | cons e t ih =>
    simp only [maskLookup, List.find?_cons]
    by_cases h : e.mask = m <;> simp_all

theorem acalHiAt_eq_find (t : List (Byte × Fin 4)) (b : Byte) :
    acalHiAt t b = (t.find? fun e => decide (e.1 = b)).map (·.2) := by
  induction t with
  | nil => rfl
  | cons e t ih =>
    obtain ⟨x, h⟩ := e
    simp only [acalHiAt, List.find?_cons]
    by_cases hx : x = b <;> simp_all

/-- The first byte of an ACAL above 13FFH that the device can encode is 54 to 57 and is read back as that target. -/
theorem acalHiAt_acalByte {dev : Device} {h : Fin 8} (h4 : 4 ≤ h.val) (ok : acalHiOk dev h = true) :
    ∃ n, n < 4 ∧ acalByte dev h = codePlus 0x54 n ∧ ∃ k, acalHiAt dev.acalHi (codePlus 0x54 n) = some k ∧ 4 + k.val = h.val := by
  have hk : ∀ k : Fin 4, k = fin4Of (h.val - 4) ↔ 4 + k.val = h.val :=
    (by decide : ∀ h : Fin 8, 4 ≤ h.val → ∀ k : Fin 4, k = fin4Of (h.val - 4) ↔ 4 + k.val = h.val) h h4
  have hs : ([0, 1, 2, 3].find? fun n => decide (acalHiAt dev.acalHi (codePlus 0x54 n) = some (fin4Of (h.val - 4)))).isSome := by
    rw [List.find?_isSome]
    obtain ⟨n, hn, h1⟩ := List.any_eq_true.mp ok
    refine ⟨n, hn, ?_⟩
    unfold acalHiEntry at h1
    rw [acalHiAt_eq_find, codePlus]
    split at h1
    · simp at h1
    · next e he =>
      rw [he]
      simp only [decide_eq_true_eq, Option.map_some, Option.some.injEq]
      exact (hk e.2).mpr (by simp at h1; omega)
  obtain ⟨n, hn⟩ := Option.isSome_iff_exists.mp hs
  have hm := List.mem_of_find?_eq_some hn
  have hp := List.find?_some hn
  refine ⟨n, by simp at hm; omega, ?_, fin4Of (h.val - 4), by simpa using hp, (hk _).mp rfl⟩
  unfold acalByte
  rw [if_neg (by omega), hn]

/-- A free first byte that ACAL_HI does not name reads as unassigned. -/
theorem acalHiAt_none {dev : Device} {lo : Fin 4} (h : (acalHiEntry dev (BitVec.ofNat 8 (0x54 + lo.val))).isNone = true) :
    acalHiAt dev.acalHi (codePlus 0x54 lo.val) = none := by
  rw [acalHiAt_eq_find, codePlus]
  simpa [acalHiEntry] using h

/-- The mask byte of a list the device can encode is read back as that list. -/
theorem maskLookup_maskOf {t : List RegMaskEntry} {d : StackDir} {l : RegList} (h : RegMaskEntry.isFirst t d l = true) :
    ∃ m, maskOf t d l = some m ∧ maskLookup t m = some (d, l) := by
  unfold RegMaskEntry.isFirst at h
  split at h
  · simp at h
  · next e he =>
    refine ⟨e.mask, by rw [maskOf_eq_find, he]; rfl, ?_⟩
    rw [maskLookup_eq_find]
    split at h
    · simp at h
    · next f hf => rw [hf]; simp_all

end Sys2Proof
end

