-- ==== Sys2Proof/Laws/Memory.lean ====
section
/-! SUPPORT. The laws of a memory space: a read after a write, the other addresses, and the canonical form kept. -/

namespace Sys2Proof.Machine.Memory

theorem lookup_insert_self (m : List Host.Cell) (a : Nat) (v : Byte) : lookup (insert m a v) a = some v := by
  induction m with
  | nil => simp [insert, lookup]
  | cons c t ih =>
    obtain ⟨k, w⟩ := c
    rw [insert]
    split
    · simp [lookup]
    · split
      · simp [lookup]
      · next h => simp [lookup, Ne.symm h, ih]

theorem lookup_insert_other (m : List Host.Cell) (a b : Nat) (v : Byte) (h : b ≠ a) :
    lookup (insert m a v) b = lookup m b := by
  induction m with
  | nil => simp [insert, lookup, Ne.symm h]
  | cons c t ih =>
    obtain ⟨k, w⟩ := c
    rw [insert]
    split
    · simp [lookup, Ne.symm h]
    · split
      · next h2 => subst h2; simp [lookup, Ne.symm h]
      · simp [lookup, ih]

theorem lookup_erase_self (m : List Host.Cell) (a : Nat) : lookup (erase m a) a = none := by
  induction m with
  | nil => rfl
  | cons c t ih =>
    obtain ⟨k, w⟩ := c
    rw [erase]
    split
    · exact ih
    · next h => simp [lookup, h, ih]

theorem lookup_erase_other (m : List Host.Cell) (a b : Nat) (h : b ≠ a) : lookup (erase m a) b = lookup m b := by
  induction m with
  | nil => rfl
  | cons c t ih =>
    obtain ⟨k, w⟩ := c
    rw [erase]
    split
    · next h2 => subst h2; simp [lookup, Ne.symm h, ih]
    · simp [lookup, ih]

/-- A read after a write to the same address gives the value written. -/
@[simp] theorem read_write_self (d : Nat → Option Byte) (m : List Host.Cell) (a : Nat) (v : Byte) :
    read d (write d m a v) a = some v := by
  unfold write
  split
  · next h => simp [read, lookup_erase_self, h]
  · simp [read, lookup_insert_self]

/-- A write leaves every other address alone. -/
theorem read_write_other (d : Nat → Option Byte) (m : List Host.Cell) (a b : Nat) (v : Byte) (h : b ≠ a) :
    read d (write d m a v) b = read d m b := by
  unfold write
  split
  · simp [read, lookup_erase_other _ _ _ h]
  · simp [read, lookup_insert_other _ _ _ _ h]

/-! ## The canonical form -/

/-- The listed addresses rise strictly and lie above an optional bound, as a proposition. -/
theorem sortedFrom_some (lo k : Nat) (w : Byte) (t : List Host.Cell) :
    sortedFrom (some lo) ((k, w) :: t) = true ↔ lo < k ∧ sortedFrom (some k) t = true := by
  simp [sortedFrom]

theorem sortedFrom_none (k : Nat) (w : Byte) (t : List Host.Cell) :
    sortedFrom none ((k, w) :: t) = sortedFrom (some k) t := rfl

theorem sortedFrom_weaken {lo lo' : Nat} {m : List Host.Cell} (h : lo' ≤ lo) (hm : sortedFrom (some lo) m = true) :
    sortedFrom (some lo') m = true := by
  cases m with
  | nil => rfl
  | cons c t =>
    obtain ⟨k, w⟩ := c
    rw [sortedFrom_some] at hm ⊢
    exact ⟨by omega, hm.2⟩

theorem sortedFrom_insert_some (m : List Host.Cell) (lo a : Nat) (v : Byte) (h : lo < a)
    (hm : sortedFrom (some lo) m = true) : sortedFrom (some lo) (insert m a v) = true := by
  induction m generalizing lo with
  | nil => simp [insert, sortedFrom, h]
  | cons c t ih =>
    obtain ⟨k, w⟩ := c
    rw [sortedFrom_some] at hm
    rw [insert]
    split
    · next h2 => simp only [sortedFrom_some]; exact ⟨h, h2, hm.2⟩
    · split
      · next h2 => subst h2; rw [sortedFrom_some]; exact ⟨h, hm.2⟩
      · next h1 h2 => rw [sortedFrom_some]; exact ⟨hm.1, ih k (by omega) hm.2⟩

theorem sortedFrom_insert_none (m : List Host.Cell) (a : Nat) (v : Byte)
    (hm : sortedFrom none m = true) : sortedFrom none (insert m a v) = true := by
  cases m with
  | nil => rfl
  | cons c t =>
    obtain ⟨k, w⟩ := c
    rw [sortedFrom_none] at hm
    rw [insert]
    split
    · next h => rw [sortedFrom_none, sortedFrom_some]; exact ⟨h, hm⟩
    · split
      · next h => subst h; exact hm
      · next h1 h2 => rw [sortedFrom_none]; exact sortedFrom_insert_some t k a v (by omega) hm

theorem sortedFrom_erase_some (m : List Host.Cell) (lo a : Nat) (hm : sortedFrom (some lo) m = true) :
    sortedFrom (some lo) (erase m a) = true := by
  induction m generalizing lo with
  | nil => rfl
  | cons c t ih =>
    obtain ⟨k, w⟩ := c
    rw [sortedFrom_some] at hm
    rw [erase]
    split
    · exact ih lo (sortedFrom_weaken (by omega) hm.2)
    · rw [sortedFrom_some]; exact ⟨hm.1, ih k hm.2⟩

theorem sortedFrom_erase_none (m : List Host.Cell) (a : Nat) (hm : sortedFrom none m = true) :
    sortedFrom none (erase m a) = true := by
  induction m with
  | nil => rfl
  | cons c t ih =>
    obtain ⟨k, w⟩ := c
    rw [sortedFrom_none] at hm
    rw [erase]
    split
    · cases t with
      | nil => rfl
      | cons c' t' =>
        obtain ⟨k', w'⟩ := c'
        rw [sortedFrom_some] at hm
        exact ih hm.2
    · rw [sortedFrom_none]; exact sortedFrom_erase_some t k a hm

theorem mem_insert {m : List Host.Cell} {a : Nat} {v : Byte} {c : Host.Cell} (h : c ∈ insert m a v) :
    c = (a, v) ∨ c ∈ m := by
  induction m with
  | nil => simpa [insert] using h
  | cons x t ih =>
    obtain ⟨k, w⟩ := x
    rw [insert] at h
    split at h
    · simpa using h
    · split at h
      · rcases List.mem_cons.mp h with h | h
        · exact .inl h
        · exact .inr (List.mem_cons_of_mem _ h)
      · rcases List.mem_cons.mp h with h | h
        · exact .inr (by simp [h])
        · rcases ih h with h | h
          · exact .inl h
          · exact .inr (List.mem_cons_of_mem _ h)

theorem mem_erase {m : List Host.Cell} {a : Nat} {c : Host.Cell} (h : c ∈ erase m a) : c ∈ m := by
  induction m with
  | nil => simp [erase] at h
  | cons x t ih =>
    obtain ⟨k, w⟩ := x
    rw [erase] at h
    split at h
    · exact List.mem_cons_of_mem _ (ih h)
    · rcases List.mem_cons.mp h with h | h
      · simp [h]
      · exact List.mem_cons_of_mem _ (ih h)

/-- A write inside the 16M-byte space keeps the canonical form. -/
theorem wf_write (d : Nat → Option Byte) (m : List Host.Cell) (a : Nat) (v : Byte) (ha : a < 0x1000000)
    (hm : wf d m = true) : wf d (write d m a v) = true := by
  simp only [wf, Bool.and_eq_true, List.all_eq_true, decide_eq_true_eq] at hm ⊢
  obtain ⟨hs, he⟩ := hm
  unfold write
  split
  · exact ⟨sortedFrom_erase_none m a hs, fun c hc => he c (mem_erase hc)⟩
  · next hne =>
    refine ⟨sortedFrom_insert_none m a v hs, fun c hc => ?_⟩
    rcases mem_insert hc with rfl | hc
    · exact ⟨ha, hne⟩
    · exact he c hc

/-- Nothing listed is in canonical form. -/
theorem wf_nil (d : Nat → Option Byte) : wf d [] = true := rfl

/-- Every address of either space lies below 16M. -/
theorem key_lt (seg : Byte) (off : Word) : key seg off < 0x1000000 := by
  unfold key; omega

/-- Two addresses of one segment have different keys when their offsets differ. -/
theorem key_ne {seg : Byte} {o o' : Word} (h : o ≠ o') : key seg o ≠ key seg o' := by
  unfold key
  intro e
  exact h (BitVec.eq_of_toNat_eq (by omega))

end Sys2Proof.Machine.Memory
end

