-- ==== Sys2Proof/Laws/State.lean ====
section
/-! SUPPORT. One lemma per field per update of State, true by rfl: no later proof unfolds a record update. -/

namespace Sys2Proof.Machine.State

variable (s : State)

@[simp] theorem setA_a (v : Word) : (s.setA v).a = v := rfl
@[simp] theorem setA_psw (v : Word) : (s.setA v).psw = s.psw := rfl
@[simp] theorem setA_pc (v : Word) : (s.setA v).pc = s.pc := rfl
@[simp] theorem setA_lrb (v : Word) : (s.setA v).lrb = s.lrb := rfl
@[simp] theorem setA_ssp (v : Word) : (s.setA v).ssp = s.ssp := rfl
@[simp] theorem setA_csr (v : Word) : (s.setA v).csr = s.csr := rfl
@[simp] theorem setA_tsr (v : Word) : (s.setA v).tsr = s.tsr := rfl
@[simp] theorem setA_dsr (v : Word) : (s.setA v).dsr = s.dsr := rfl
@[simp] theorem setA_romwin (v : Word) : (s.setA v).romwin = s.romwin := rfl
@[simp] theorem setA_romwinWritten (v : Word) : (s.setA v).romwinWritten = s.romwinWritten := rfl
@[simp] theorem setA_model (v : Word) : (s.setA v).model = s.model := rfl
@[simp] theorem setA_modelSet (v : Word) : (s.setA v).modelSet = s.modelSet := rfl
@[simp] theorem setA_ddFetch (v : Word) : (s.setA v).ddFetch = s.ddFetch := rfl
@[simp] theorem setA_data (v : Word) : (s.setA v).data = s.data := rfl
@[simp] theorem setA_prog (v : Word) : (s.setA v).prog = s.prog := rfl
@[simp] theorem setA_inputs (v : Word) : (s.setA v).inputs = s.inputs := rfl
@[simp] theorem setA_draws (v : Word) : (s.setA v).draws = s.draws := rfl
@[simp] theorem setA_dev (v : Word) : (s.setA v).dev = s.dev := rfl

@[simp] theorem setPsw_a (v : Word) : (s.setPsw v).a = s.a := rfl
@[simp] theorem setPsw_psw (v : Word) : (s.setPsw v).psw = v := rfl
@[simp] theorem setPsw_pc (v : Word) : (s.setPsw v).pc = s.pc := rfl
@[simp] theorem setPsw_lrb (v : Word) : (s.setPsw v).lrb = s.lrb := rfl
@[simp] theorem setPsw_ssp (v : Word) : (s.setPsw v).ssp = s.ssp := rfl
@[simp] theorem setPsw_csr (v : Word) : (s.setPsw v).csr = s.csr := rfl
@[simp] theorem setPsw_tsr (v : Word) : (s.setPsw v).tsr = s.tsr := rfl
@[simp] theorem setPsw_dsr (v : Word) : (s.setPsw v).dsr = s.dsr := rfl
@[simp] theorem setPsw_romwin (v : Word) : (s.setPsw v).romwin = s.romwin := rfl
@[simp] theorem setPsw_romwinWritten (v : Word) : (s.setPsw v).romwinWritten = s.romwinWritten := rfl
@[simp] theorem setPsw_model (v : Word) : (s.setPsw v).model = s.model := rfl
@[simp] theorem setPsw_modelSet (v : Word) : (s.setPsw v).modelSet = s.modelSet := rfl
@[simp] theorem setPsw_ddFetch (v : Word) : (s.setPsw v).ddFetch = s.ddFetch := rfl
@[simp] theorem setPsw_data (v : Word) : (s.setPsw v).data = s.data := rfl
@[simp] theorem setPsw_prog (v : Word) : (s.setPsw v).prog = s.prog := rfl
@[simp] theorem setPsw_inputs (v : Word) : (s.setPsw v).inputs = s.inputs := rfl
@[simp] theorem setPsw_draws (v : Word) : (s.setPsw v).draws = s.draws := rfl
@[simp] theorem setPsw_dev (v : Word) : (s.setPsw v).dev = s.dev := rfl

@[simp] theorem setPc_a (v : Word) : (s.setPc v).a = s.a := rfl
@[simp] theorem setPc_psw (v : Word) : (s.setPc v).psw = s.psw := rfl
@[simp] theorem setPc_pc (v : Word) : (s.setPc v).pc = v := rfl
@[simp] theorem setPc_lrb (v : Word) : (s.setPc v).lrb = s.lrb := rfl
@[simp] theorem setPc_ssp (v : Word) : (s.setPc v).ssp = s.ssp := rfl
@[simp] theorem setPc_csr (v : Word) : (s.setPc v).csr = s.csr := rfl
@[simp] theorem setPc_tsr (v : Word) : (s.setPc v).tsr = s.tsr := rfl
@[simp] theorem setPc_dsr (v : Word) : (s.setPc v).dsr = s.dsr := rfl
@[simp] theorem setPc_romwin (v : Word) : (s.setPc v).romwin = s.romwin := rfl
@[simp] theorem setPc_romwinWritten (v : Word) : (s.setPc v).romwinWritten = s.romwinWritten := rfl
@[simp] theorem setPc_model (v : Word) : (s.setPc v).model = s.model := rfl
@[simp] theorem setPc_modelSet (v : Word) : (s.setPc v).modelSet = s.modelSet := rfl
@[simp] theorem setPc_ddFetch (v : Word) : (s.setPc v).ddFetch = s.ddFetch := rfl
@[simp] theorem setPc_data (v : Word) : (s.setPc v).data = s.data := rfl
@[simp] theorem setPc_prog (v : Word) : (s.setPc v).prog = s.prog := rfl
@[simp] theorem setPc_inputs (v : Word) : (s.setPc v).inputs = s.inputs := rfl
@[simp] theorem setPc_draws (v : Word) : (s.setPc v).draws = s.draws := rfl
@[simp] theorem setPc_dev (v : Word) : (s.setPc v).dev = s.dev := rfl

@[simp] theorem setLrb_a (v : Word) : (s.setLrb v).a = s.a := rfl
@[simp] theorem setLrb_psw (v : Word) : (s.setLrb v).psw = s.psw := rfl
@[simp] theorem setLrb_pc (v : Word) : (s.setLrb v).pc = s.pc := rfl
@[simp] theorem setLrb_lrb (v : Word) : (s.setLrb v).lrb = v := rfl
@[simp] theorem setLrb_ssp (v : Word) : (s.setLrb v).ssp = s.ssp := rfl
@[simp] theorem setLrb_csr (v : Word) : (s.setLrb v).csr = s.csr := rfl
@[simp] theorem setLrb_tsr (v : Word) : (s.setLrb v).tsr = s.tsr := rfl
@[simp] theorem setLrb_dsr (v : Word) : (s.setLrb v).dsr = s.dsr := rfl
@[simp] theorem setLrb_romwin (v : Word) : (s.setLrb v).romwin = s.romwin := rfl
@[simp] theorem setLrb_romwinWritten (v : Word) : (s.setLrb v).romwinWritten = s.romwinWritten := rfl
@[simp] theorem setLrb_model (v : Word) : (s.setLrb v).model = s.model := rfl
@[simp] theorem setLrb_modelSet (v : Word) : (s.setLrb v).modelSet = s.modelSet := rfl
@[simp] theorem setLrb_ddFetch (v : Word) : (s.setLrb v).ddFetch = s.ddFetch := rfl
@[simp] theorem setLrb_data (v : Word) : (s.setLrb v).data = s.data := rfl
@[simp] theorem setLrb_prog (v : Word) : (s.setLrb v).prog = s.prog := rfl
@[simp] theorem setLrb_inputs (v : Word) : (s.setLrb v).inputs = s.inputs := rfl
@[simp] theorem setLrb_draws (v : Word) : (s.setLrb v).draws = s.draws := rfl
@[simp] theorem setLrb_dev (v : Word) : (s.setLrb v).dev = s.dev := rfl

@[simp] theorem setSsp_a (v : Word) : (s.setSsp v).a = s.a := rfl
@[simp] theorem setSsp_psw (v : Word) : (s.setSsp v).psw = s.psw := rfl
@[simp] theorem setSsp_pc (v : Word) : (s.setSsp v).pc = s.pc := rfl
@[simp] theorem setSsp_lrb (v : Word) : (s.setSsp v).lrb = s.lrb := rfl
@[simp] theorem setSsp_ssp (v : Word) : (s.setSsp v).ssp = v := rfl
@[simp] theorem setSsp_csr (v : Word) : (s.setSsp v).csr = s.csr := rfl
@[simp] theorem setSsp_tsr (v : Word) : (s.setSsp v).tsr = s.tsr := rfl
@[simp] theorem setSsp_dsr (v : Word) : (s.setSsp v).dsr = s.dsr := rfl
@[simp] theorem setSsp_romwin (v : Word) : (s.setSsp v).romwin = s.romwin := rfl
@[simp] theorem setSsp_romwinWritten (v : Word) : (s.setSsp v).romwinWritten = s.romwinWritten := rfl
@[simp] theorem setSsp_model (v : Word) : (s.setSsp v).model = s.model := rfl
@[simp] theorem setSsp_modelSet (v : Word) : (s.setSsp v).modelSet = s.modelSet := rfl
@[simp] theorem setSsp_ddFetch (v : Word) : (s.setSsp v).ddFetch = s.ddFetch := rfl
@[simp] theorem setSsp_data (v : Word) : (s.setSsp v).data = s.data := rfl
@[simp] theorem setSsp_prog (v : Word) : (s.setSsp v).prog = s.prog := rfl
@[simp] theorem setSsp_inputs (v : Word) : (s.setSsp v).inputs = s.inputs := rfl
@[simp] theorem setSsp_draws (v : Word) : (s.setSsp v).draws = s.draws := rfl
@[simp] theorem setSsp_dev (v : Word) : (s.setSsp v).dev = s.dev := rfl

@[simp] theorem setCsrRaw_a (v : Byte) : (s.setCsrRaw v).a = s.a := rfl
@[simp] theorem setCsrRaw_psw (v : Byte) : (s.setCsrRaw v).psw = s.psw := rfl
@[simp] theorem setCsrRaw_pc (v : Byte) : (s.setCsrRaw v).pc = s.pc := rfl
@[simp] theorem setCsrRaw_lrb (v : Byte) : (s.setCsrRaw v).lrb = s.lrb := rfl
@[simp] theorem setCsrRaw_ssp (v : Byte) : (s.setCsrRaw v).ssp = s.ssp := rfl
@[simp] theorem setCsrRaw_csr (v : Byte) : (s.setCsrRaw v).csr = v := rfl
@[simp] theorem setCsrRaw_tsr (v : Byte) : (s.setCsrRaw v).tsr = s.tsr := rfl
@[simp] theorem setCsrRaw_dsr (v : Byte) : (s.setCsrRaw v).dsr = s.dsr := rfl
@[simp] theorem setCsrRaw_romwin (v : Byte) : (s.setCsrRaw v).romwin = s.romwin := rfl
@[simp] theorem setCsrRaw_romwinWritten (v : Byte) : (s.setCsrRaw v).romwinWritten = s.romwinWritten := rfl
@[simp] theorem setCsrRaw_model (v : Byte) : (s.setCsrRaw v).model = s.model := rfl
@[simp] theorem setCsrRaw_modelSet (v : Byte) : (s.setCsrRaw v).modelSet = s.modelSet := rfl
@[simp] theorem setCsrRaw_ddFetch (v : Byte) : (s.setCsrRaw v).ddFetch = s.ddFetch := rfl
@[simp] theorem setCsrRaw_data (v : Byte) : (s.setCsrRaw v).data = s.data := rfl
@[simp] theorem setCsrRaw_prog (v : Byte) : (s.setCsrRaw v).prog = s.prog := rfl
@[simp] theorem setCsrRaw_inputs (v : Byte) : (s.setCsrRaw v).inputs = s.inputs := rfl
@[simp] theorem setCsrRaw_draws (v : Byte) : (s.setCsrRaw v).draws = s.draws := rfl
@[simp] theorem setCsrRaw_dev (v : Byte) : (s.setCsrRaw v).dev = s.dev := rfl

@[simp] theorem setTsrRaw_a (v : Byte) : (s.setTsrRaw v).a = s.a := rfl
@[simp] theorem setTsrRaw_psw (v : Byte) : (s.setTsrRaw v).psw = s.psw := rfl
@[simp] theorem setTsrRaw_pc (v : Byte) : (s.setTsrRaw v).pc = s.pc := rfl
@[simp] theorem setTsrRaw_lrb (v : Byte) : (s.setTsrRaw v).lrb = s.lrb := rfl
@[simp] theorem setTsrRaw_ssp (v : Byte) : (s.setTsrRaw v).ssp = s.ssp := rfl
@[simp] theorem setTsrRaw_csr (v : Byte) : (s.setTsrRaw v).csr = s.csr := rfl
@[simp] theorem setTsrRaw_tsr (v : Byte) : (s.setTsrRaw v).tsr = v := rfl
@[simp] theorem setTsrRaw_dsr (v : Byte) : (s.setTsrRaw v).dsr = s.dsr := rfl
@[simp] theorem setTsrRaw_romwin (v : Byte) : (s.setTsrRaw v).romwin = s.romwin := rfl
@[simp] theorem setTsrRaw_romwinWritten (v : Byte) : (s.setTsrRaw v).romwinWritten = s.romwinWritten := rfl
@[simp] theorem setTsrRaw_model (v : Byte) : (s.setTsrRaw v).model = s.model := rfl
@[simp] theorem setTsrRaw_modelSet (v : Byte) : (s.setTsrRaw v).modelSet = s.modelSet := rfl
@[simp] theorem setTsrRaw_ddFetch (v : Byte) : (s.setTsrRaw v).ddFetch = s.ddFetch := rfl
@[simp] theorem setTsrRaw_data (v : Byte) : (s.setTsrRaw v).data = s.data := rfl
@[simp] theorem setTsrRaw_prog (v : Byte) : (s.setTsrRaw v).prog = s.prog := rfl
@[simp] theorem setTsrRaw_inputs (v : Byte) : (s.setTsrRaw v).inputs = s.inputs := rfl
@[simp] theorem setTsrRaw_draws (v : Byte) : (s.setTsrRaw v).draws = s.draws := rfl
@[simp] theorem setTsrRaw_dev (v : Byte) : (s.setTsrRaw v).dev = s.dev := rfl

@[simp] theorem setDsrRaw_a (v : Byte) : (s.setDsrRaw v).a = s.a := rfl
@[simp] theorem setDsrRaw_psw (v : Byte) : (s.setDsrRaw v).psw = s.psw := rfl
@[simp] theorem setDsrRaw_pc (v : Byte) : (s.setDsrRaw v).pc = s.pc := rfl
@[simp] theorem setDsrRaw_lrb (v : Byte) : (s.setDsrRaw v).lrb = s.lrb := rfl
@[simp] theorem setDsrRaw_ssp (v : Byte) : (s.setDsrRaw v).ssp = s.ssp := rfl
@[simp] theorem setDsrRaw_csr (v : Byte) : (s.setDsrRaw v).csr = s.csr := rfl
@[simp] theorem setDsrRaw_tsr (v : Byte) : (s.setDsrRaw v).tsr = s.tsr := rfl
@[simp] theorem setDsrRaw_dsr (v : Byte) : (s.setDsrRaw v).dsr = v := rfl
@[simp] theorem setDsrRaw_romwin (v : Byte) : (s.setDsrRaw v).romwin = s.romwin := rfl
@[simp] theorem setDsrRaw_romwinWritten (v : Byte) : (s.setDsrRaw v).romwinWritten = s.romwinWritten := rfl
@[simp] theorem setDsrRaw_model (v : Byte) : (s.setDsrRaw v).model = s.model := rfl
@[simp] theorem setDsrRaw_modelSet (v : Byte) : (s.setDsrRaw v).modelSet = s.modelSet := rfl
@[simp] theorem setDsrRaw_ddFetch (v : Byte) : (s.setDsrRaw v).ddFetch = s.ddFetch := rfl
@[simp] theorem setDsrRaw_data (v : Byte) : (s.setDsrRaw v).data = s.data := rfl
@[simp] theorem setDsrRaw_prog (v : Byte) : (s.setDsrRaw v).prog = s.prog := rfl
@[simp] theorem setDsrRaw_inputs (v : Byte) : (s.setDsrRaw v).inputs = s.inputs := rfl
@[simp] theorem setDsrRaw_draws (v : Byte) : (s.setDsrRaw v).draws = s.draws := rfl
@[simp] theorem setDsrRaw_dev (v : Byte) : (s.setDsrRaw v).dev = s.dev := rfl

@[simp] theorem setRomwinRaw_a (v : Byte) (b : Bool) : (s.setRomwinRaw v b).a = s.a := rfl
@[simp] theorem setRomwinRaw_psw (v : Byte) (b : Bool) : (s.setRomwinRaw v b).psw = s.psw := rfl
@[simp] theorem setRomwinRaw_pc (v : Byte) (b : Bool) : (s.setRomwinRaw v b).pc = s.pc := rfl
@[simp] theorem setRomwinRaw_lrb (v : Byte) (b : Bool) : (s.setRomwinRaw v b).lrb = s.lrb := rfl
@[simp] theorem setRomwinRaw_ssp (v : Byte) (b : Bool) : (s.setRomwinRaw v b).ssp = s.ssp := rfl
@[simp] theorem setRomwinRaw_csr (v : Byte) (b : Bool) : (s.setRomwinRaw v b).csr = s.csr := rfl
@[simp] theorem setRomwinRaw_tsr (v : Byte) (b : Bool) : (s.setRomwinRaw v b).tsr = s.tsr := rfl
@[simp] theorem setRomwinRaw_dsr (v : Byte) (b : Bool) : (s.setRomwinRaw v b).dsr = s.dsr := rfl
@[simp] theorem setRomwinRaw_romwin (v : Byte) (b : Bool) : (s.setRomwinRaw v b).romwin = v := rfl
@[simp] theorem setRomwinRaw_romwinWritten (v : Byte) (b : Bool) : (s.setRomwinRaw v b).romwinWritten = b := rfl
@[simp] theorem setRomwinRaw_model (v : Byte) (b : Bool) : (s.setRomwinRaw v b).model = s.model := rfl
@[simp] theorem setRomwinRaw_modelSet (v : Byte) (b : Bool) : (s.setRomwinRaw v b).modelSet = s.modelSet := rfl
@[simp] theorem setRomwinRaw_ddFetch (v : Byte) (b : Bool) : (s.setRomwinRaw v b).ddFetch = s.ddFetch := rfl
@[simp] theorem setRomwinRaw_data (v : Byte) (b : Bool) : (s.setRomwinRaw v b).data = s.data := rfl
@[simp] theorem setRomwinRaw_prog (v : Byte) (b : Bool) : (s.setRomwinRaw v b).prog = s.prog := rfl
@[simp] theorem setRomwinRaw_inputs (v : Byte) (b : Bool) : (s.setRomwinRaw v b).inputs = s.inputs := rfl
@[simp] theorem setRomwinRaw_draws (v : Byte) (b : Bool) : (s.setRomwinRaw v b).draws = s.draws := rfl
@[simp] theorem setRomwinRaw_dev (v : Byte) (b : Bool) : (s.setRomwinRaw v b).dev = s.dev := rfl

@[simp] theorem setModelRaw_a (m : MemModel) (b : Bool) : (s.setModelRaw m b).a = s.a := rfl
@[simp] theorem setModelRaw_psw (m : MemModel) (b : Bool) : (s.setModelRaw m b).psw = s.psw := rfl
@[simp] theorem setModelRaw_pc (m : MemModel) (b : Bool) : (s.setModelRaw m b).pc = s.pc := rfl
@[simp] theorem setModelRaw_lrb (m : MemModel) (b : Bool) : (s.setModelRaw m b).lrb = s.lrb := rfl
@[simp] theorem setModelRaw_ssp (m : MemModel) (b : Bool) : (s.setModelRaw m b).ssp = s.ssp := rfl
@[simp] theorem setModelRaw_csr (m : MemModel) (b : Bool) : (s.setModelRaw m b).csr = s.csr := rfl
@[simp] theorem setModelRaw_tsr (m : MemModel) (b : Bool) : (s.setModelRaw m b).tsr = s.tsr := rfl
@[simp] theorem setModelRaw_dsr (m : MemModel) (b : Bool) : (s.setModelRaw m b).dsr = s.dsr := rfl
@[simp] theorem setModelRaw_romwin (m : MemModel) (b : Bool) : (s.setModelRaw m b).romwin = s.romwin := rfl
@[simp] theorem setModelRaw_romwinWritten (m : MemModel) (b : Bool) : (s.setModelRaw m b).romwinWritten = s.romwinWritten := rfl
@[simp] theorem setModelRaw_model (m : MemModel) (b : Bool) : (s.setModelRaw m b).model = m := rfl
@[simp] theorem setModelRaw_modelSet (m : MemModel) (b : Bool) : (s.setModelRaw m b).modelSet = b := rfl
@[simp] theorem setModelRaw_ddFetch (m : MemModel) (b : Bool) : (s.setModelRaw m b).ddFetch = s.ddFetch := rfl
@[simp] theorem setModelRaw_data (m : MemModel) (b : Bool) : (s.setModelRaw m b).data = s.data := rfl
@[simp] theorem setModelRaw_prog (m : MemModel) (b : Bool) : (s.setModelRaw m b).prog = s.prog := rfl
@[simp] theorem setModelRaw_inputs (m : MemModel) (b : Bool) : (s.setModelRaw m b).inputs = s.inputs := rfl
@[simp] theorem setModelRaw_draws (m : MemModel) (b : Bool) : (s.setModelRaw m b).draws = s.draws := rfl
@[simp] theorem setModelRaw_dev (m : MemModel) (b : Bool) : (s.setModelRaw m b).dev = s.dev := rfl

@[simp] theorem setDdFetch_a (b : Bool) : (s.setDdFetch b).a = s.a := rfl
@[simp] theorem setDdFetch_psw (b : Bool) : (s.setDdFetch b).psw = s.psw := rfl
@[simp] theorem setDdFetch_pc (b : Bool) : (s.setDdFetch b).pc = s.pc := rfl
@[simp] theorem setDdFetch_lrb (b : Bool) : (s.setDdFetch b).lrb = s.lrb := rfl
@[simp] theorem setDdFetch_ssp (b : Bool) : (s.setDdFetch b).ssp = s.ssp := rfl
@[simp] theorem setDdFetch_csr (b : Bool) : (s.setDdFetch b).csr = s.csr := rfl
@[simp] theorem setDdFetch_tsr (b : Bool) : (s.setDdFetch b).tsr = s.tsr := rfl
@[simp] theorem setDdFetch_dsr (b : Bool) : (s.setDdFetch b).dsr = s.dsr := rfl
@[simp] theorem setDdFetch_romwin (b : Bool) : (s.setDdFetch b).romwin = s.romwin := rfl
@[simp] theorem setDdFetch_romwinWritten (b : Bool) : (s.setDdFetch b).romwinWritten = s.romwinWritten := rfl
@[simp] theorem setDdFetch_model (b : Bool) : (s.setDdFetch b).model = s.model := rfl
@[simp] theorem setDdFetch_modelSet (b : Bool) : (s.setDdFetch b).modelSet = s.modelSet := rfl
@[simp] theorem setDdFetch_ddFetch (b : Bool) : (s.setDdFetch b).ddFetch = b := rfl
@[simp] theorem setDdFetch_data (b : Bool) : (s.setDdFetch b).data = s.data := rfl
@[simp] theorem setDdFetch_prog (b : Bool) : (s.setDdFetch b).prog = s.prog := rfl
@[simp] theorem setDdFetch_inputs (b : Bool) : (s.setDdFetch b).inputs = s.inputs := rfl
@[simp] theorem setDdFetch_draws (b : Bool) : (s.setDdFetch b).draws = s.draws := rfl
@[simp] theorem setDdFetch_dev (b : Bool) : (s.setDdFetch b).dev = s.dev := rfl

@[simp] theorem setData_a (m : List Host.Cell) : (s.setData m).a = s.a := rfl
@[simp] theorem setData_psw (m : List Host.Cell) : (s.setData m).psw = s.psw := rfl
@[simp] theorem setData_pc (m : List Host.Cell) : (s.setData m).pc = s.pc := rfl
@[simp] theorem setData_lrb (m : List Host.Cell) : (s.setData m).lrb = s.lrb := rfl
@[simp] theorem setData_ssp (m : List Host.Cell) : (s.setData m).ssp = s.ssp := rfl
@[simp] theorem setData_csr (m : List Host.Cell) : (s.setData m).csr = s.csr := rfl
@[simp] theorem setData_tsr (m : List Host.Cell) : (s.setData m).tsr = s.tsr := rfl
@[simp] theorem setData_dsr (m : List Host.Cell) : (s.setData m).dsr = s.dsr := rfl
@[simp] theorem setData_romwin (m : List Host.Cell) : (s.setData m).romwin = s.romwin := rfl
@[simp] theorem setData_romwinWritten (m : List Host.Cell) : (s.setData m).romwinWritten = s.romwinWritten := rfl
@[simp] theorem setData_model (m : List Host.Cell) : (s.setData m).model = s.model := rfl
@[simp] theorem setData_modelSet (m : List Host.Cell) : (s.setData m).modelSet = s.modelSet := rfl
@[simp] theorem setData_ddFetch (m : List Host.Cell) : (s.setData m).ddFetch = s.ddFetch := rfl
@[simp] theorem setData_data (m : List Host.Cell) : (s.setData m).data = m := rfl
@[simp] theorem setData_prog (m : List Host.Cell) : (s.setData m).prog = s.prog := rfl
@[simp] theorem setData_inputs (m : List Host.Cell) : (s.setData m).inputs = s.inputs := rfl
@[simp] theorem setData_draws (m : List Host.Cell) : (s.setData m).draws = s.draws := rfl
@[simp] theorem setData_dev (m : List Host.Cell) : (s.setData m).dev = s.dev := rfl

@[simp] theorem setProg_a (m : List Host.Cell) : (s.setProg m).a = s.a := rfl
@[simp] theorem setProg_psw (m : List Host.Cell) : (s.setProg m).psw = s.psw := rfl
@[simp] theorem setProg_pc (m : List Host.Cell) : (s.setProg m).pc = s.pc := rfl
@[simp] theorem setProg_lrb (m : List Host.Cell) : (s.setProg m).lrb = s.lrb := rfl
@[simp] theorem setProg_ssp (m : List Host.Cell) : (s.setProg m).ssp = s.ssp := rfl
@[simp] theorem setProg_csr (m : List Host.Cell) : (s.setProg m).csr = s.csr := rfl
@[simp] theorem setProg_tsr (m : List Host.Cell) : (s.setProg m).tsr = s.tsr := rfl
@[simp] theorem setProg_dsr (m : List Host.Cell) : (s.setProg m).dsr = s.dsr := rfl
@[simp] theorem setProg_romwin (m : List Host.Cell) : (s.setProg m).romwin = s.romwin := rfl
@[simp] theorem setProg_romwinWritten (m : List Host.Cell) : (s.setProg m).romwinWritten = s.romwinWritten := rfl
@[simp] theorem setProg_model (m : List Host.Cell) : (s.setProg m).model = s.model := rfl
@[simp] theorem setProg_modelSet (m : List Host.Cell) : (s.setProg m).modelSet = s.modelSet := rfl
@[simp] theorem setProg_ddFetch (m : List Host.Cell) : (s.setProg m).ddFetch = s.ddFetch := rfl
@[simp] theorem setProg_data (m : List Host.Cell) : (s.setProg m).data = s.data := rfl
@[simp] theorem setProg_prog (m : List Host.Cell) : (s.setProg m).prog = m := rfl
@[simp] theorem setProg_inputs (m : List Host.Cell) : (s.setProg m).inputs = s.inputs := rfl
@[simp] theorem setProg_draws (m : List Host.Cell) : (s.setProg m).draws = s.draws := rfl
@[simp] theorem setProg_dev (m : List Host.Cell) : (s.setProg m).dev = s.dev := rfl

@[simp] theorem setInputs_a (l : List (List Event)) : (s.setInputs l).a = s.a := rfl
@[simp] theorem setInputs_psw (l : List (List Event)) : (s.setInputs l).psw = s.psw := rfl
@[simp] theorem setInputs_pc (l : List (List Event)) : (s.setInputs l).pc = s.pc := rfl
@[simp] theorem setInputs_lrb (l : List (List Event)) : (s.setInputs l).lrb = s.lrb := rfl
@[simp] theorem setInputs_ssp (l : List (List Event)) : (s.setInputs l).ssp = s.ssp := rfl
@[simp] theorem setInputs_csr (l : List (List Event)) : (s.setInputs l).csr = s.csr := rfl
@[simp] theorem setInputs_tsr (l : List (List Event)) : (s.setInputs l).tsr = s.tsr := rfl
@[simp] theorem setInputs_dsr (l : List (List Event)) : (s.setInputs l).dsr = s.dsr := rfl
@[simp] theorem setInputs_romwin (l : List (List Event)) : (s.setInputs l).romwin = s.romwin := rfl
@[simp] theorem setInputs_romwinWritten (l : List (List Event)) : (s.setInputs l).romwinWritten = s.romwinWritten := rfl
@[simp] theorem setInputs_model (l : List (List Event)) : (s.setInputs l).model = s.model := rfl
@[simp] theorem setInputs_modelSet (l : List (List Event)) : (s.setInputs l).modelSet = s.modelSet := rfl
@[simp] theorem setInputs_ddFetch (l : List (List Event)) : (s.setInputs l).ddFetch = s.ddFetch := rfl
@[simp] theorem setInputs_data (l : List (List Event)) : (s.setInputs l).data = s.data := rfl
@[simp] theorem setInputs_prog (l : List (List Event)) : (s.setInputs l).prog = s.prog := rfl
@[simp] theorem setInputs_inputs (l : List (List Event)) : (s.setInputs l).inputs = l := rfl
@[simp] theorem setInputs_draws (l : List (List Event)) : (s.setInputs l).draws = s.draws := rfl
@[simp] theorem setInputs_dev (l : List (List Event)) : (s.setInputs l).dev = s.dev := rfl

@[simp] theorem draw_a (n : Nat) : (s.draw n).a = s.a := rfl
@[simp] theorem draw_psw (n : Nat) : (s.draw n).psw = s.psw := rfl
@[simp] theorem draw_pc (n : Nat) : (s.draw n).pc = s.pc := rfl
@[simp] theorem draw_lrb (n : Nat) : (s.draw n).lrb = s.lrb := rfl
@[simp] theorem draw_ssp (n : Nat) : (s.draw n).ssp = s.ssp := rfl
@[simp] theorem draw_csr (n : Nat) : (s.draw n).csr = s.csr := rfl
@[simp] theorem draw_tsr (n : Nat) : (s.draw n).tsr = s.tsr := rfl
@[simp] theorem draw_dsr (n : Nat) : (s.draw n).dsr = s.dsr := rfl
@[simp] theorem draw_romwin (n : Nat) : (s.draw n).romwin = s.romwin := rfl
@[simp] theorem draw_romwinWritten (n : Nat) : (s.draw n).romwinWritten = s.romwinWritten := rfl
@[simp] theorem draw_model (n : Nat) : (s.draw n).model = s.model := rfl
@[simp] theorem draw_modelSet (n : Nat) : (s.draw n).modelSet = s.modelSet := rfl
@[simp] theorem draw_ddFetch (n : Nat) : (s.draw n).ddFetch = s.ddFetch := rfl
@[simp] theorem draw_data (n : Nat) : (s.draw n).data = s.data := rfl
@[simp] theorem draw_prog (n : Nat) : (s.draw n).prog = s.prog := rfl
@[simp] theorem draw_inputs (n : Nat) : (s.draw n).inputs = s.inputs := rfl
@[simp] theorem draw_draws (n : Nat) : (s.draw n).draws = s.draws + n := rfl
@[simp] theorem draw_dev (n : Nat) : (s.draw n).dev = s.dev := rfl

@[simp] theorem setCsr_a (v : Byte) : (s.setCsr v).a = s.a := rfl
@[simp] theorem setCsr_psw (v : Byte) : (s.setCsr v).psw = s.psw := rfl
@[simp] theorem setCsr_pc (v : Byte) : (s.setCsr v).pc = s.pc := rfl
@[simp] theorem setCsr_lrb (v : Byte) : (s.setCsr v).lrb = s.lrb := rfl
@[simp] theorem setCsr_ssp (v : Byte) : (s.setCsr v).ssp = s.ssp := rfl
@[simp] theorem setCsr_csr (v : Byte) : (s.setCsr v).csr = v &&& segMask s.dev.csrBits := rfl
@[simp] theorem setCsr_tsr (v : Byte) : (s.setCsr v).tsr = s.tsr := rfl
@[simp] theorem setCsr_dsr (v : Byte) : (s.setCsr v).dsr = s.dsr := rfl
@[simp] theorem setCsr_romwin (v : Byte) : (s.setCsr v).romwin = s.romwin := rfl
@[simp] theorem setCsr_romwinWritten (v : Byte) : (s.setCsr v).romwinWritten = s.romwinWritten := rfl
@[simp] theorem setCsr_model (v : Byte) : (s.setCsr v).model = s.model := rfl
@[simp] theorem setCsr_modelSet (v : Byte) : (s.setCsr v).modelSet = s.modelSet := rfl
@[simp] theorem setCsr_ddFetch (v : Byte) : (s.setCsr v).ddFetch = s.ddFetch := rfl
@[simp] theorem setCsr_data (v : Byte) : (s.setCsr v).data = s.data := rfl
@[simp] theorem setCsr_prog (v : Byte) : (s.setCsr v).prog = s.prog := rfl
@[simp] theorem setCsr_inputs (v : Byte) : (s.setCsr v).inputs = s.inputs := rfl
@[simp] theorem setCsr_draws (v : Byte) : (s.setCsr v).draws = s.draws := rfl
@[simp] theorem setCsr_dev (v : Byte) : (s.setCsr v).dev = s.dev := rfl

@[simp] theorem setTsr_a (v : Byte) : (s.setTsr v).a = s.a := rfl
@[simp] theorem setTsr_psw (v : Byte) : (s.setTsr v).psw = s.psw := rfl
@[simp] theorem setTsr_pc (v : Byte) : (s.setTsr v).pc = s.pc := rfl
@[simp] theorem setTsr_lrb (v : Byte) : (s.setTsr v).lrb = s.lrb := rfl
@[simp] theorem setTsr_ssp (v : Byte) : (s.setTsr v).ssp = s.ssp := rfl
@[simp] theorem setTsr_csr (v : Byte) : (s.setTsr v).csr = s.csr := rfl
@[simp] theorem setTsr_tsr (v : Byte) : (s.setTsr v).tsr = v &&& segMask s.dev.tsrBits := rfl
@[simp] theorem setTsr_dsr (v : Byte) : (s.setTsr v).dsr = s.dsr := rfl
@[simp] theorem setTsr_romwin (v : Byte) : (s.setTsr v).romwin = s.romwin := rfl
@[simp] theorem setTsr_romwinWritten (v : Byte) : (s.setTsr v).romwinWritten = s.romwinWritten := rfl
@[simp] theorem setTsr_model (v : Byte) : (s.setTsr v).model = s.model := rfl
@[simp] theorem setTsr_modelSet (v : Byte) : (s.setTsr v).modelSet = s.modelSet := rfl
@[simp] theorem setTsr_ddFetch (v : Byte) : (s.setTsr v).ddFetch = s.ddFetch := rfl
@[simp] theorem setTsr_data (v : Byte) : (s.setTsr v).data = s.data := rfl
@[simp] theorem setTsr_prog (v : Byte) : (s.setTsr v).prog = s.prog := rfl
@[simp] theorem setTsr_inputs (v : Byte) : (s.setTsr v).inputs = s.inputs := rfl
@[simp] theorem setTsr_draws (v : Byte) : (s.setTsr v).draws = s.draws := rfl
@[simp] theorem setTsr_dev (v : Byte) : (s.setTsr v).dev = s.dev := rfl

@[simp] theorem setDsr_a (v : Byte) : (s.setDsr v).a = s.a := rfl
@[simp] theorem setDsr_psw (v : Byte) : (s.setDsr v).psw = s.psw := rfl
@[simp] theorem setDsr_pc (v : Byte) : (s.setDsr v).pc = s.pc := rfl
@[simp] theorem setDsr_lrb (v : Byte) : (s.setDsr v).lrb = s.lrb := rfl
@[simp] theorem setDsr_ssp (v : Byte) : (s.setDsr v).ssp = s.ssp := rfl
@[simp] theorem setDsr_csr (v : Byte) : (s.setDsr v).csr = s.csr := rfl
@[simp] theorem setDsr_tsr (v : Byte) : (s.setDsr v).tsr = s.tsr := rfl
@[simp] theorem setDsr_dsr (v : Byte) : (s.setDsr v).dsr = v &&& segMask s.dev.dsrBits := rfl
@[simp] theorem setDsr_romwin (v : Byte) : (s.setDsr v).romwin = s.romwin := rfl
@[simp] theorem setDsr_romwinWritten (v : Byte) : (s.setDsr v).romwinWritten = s.romwinWritten := rfl
@[simp] theorem setDsr_model (v : Byte) : (s.setDsr v).model = s.model := rfl
@[simp] theorem setDsr_modelSet (v : Byte) : (s.setDsr v).modelSet = s.modelSet := rfl
@[simp] theorem setDsr_ddFetch (v : Byte) : (s.setDsr v).ddFetch = s.ddFetch := rfl
@[simp] theorem setDsr_data (v : Byte) : (s.setDsr v).data = s.data := rfl
@[simp] theorem setDsr_prog (v : Byte) : (s.setDsr v).prog = s.prog := rfl
@[simp] theorem setDsr_inputs (v : Byte) : (s.setDsr v).inputs = s.inputs := rfl
@[simp] theorem setDsr_draws (v : Byte) : (s.setDsr v).draws = s.draws := rfl
@[simp] theorem setDsr_dev (v : Byte) : (s.setDsr v).dev = s.dev := rfl

@[simp] theorem putCell_a (k : Nat) (v : Byte) : (s.putCell k v).a = s.a := rfl
@[simp] theorem putCell_psw (k : Nat) (v : Byte) : (s.putCell k v).psw = s.psw := rfl
@[simp] theorem putCell_pc (k : Nat) (v : Byte) : (s.putCell k v).pc = s.pc := rfl
@[simp] theorem putCell_lrb (k : Nat) (v : Byte) : (s.putCell k v).lrb = s.lrb := rfl
@[simp] theorem putCell_ssp (k : Nat) (v : Byte) : (s.putCell k v).ssp = s.ssp := rfl
@[simp] theorem putCell_csr (k : Nat) (v : Byte) : (s.putCell k v).csr = s.csr := rfl
@[simp] theorem putCell_tsr (k : Nat) (v : Byte) : (s.putCell k v).tsr = s.tsr := rfl
@[simp] theorem putCell_dsr (k : Nat) (v : Byte) : (s.putCell k v).dsr = s.dsr := rfl
@[simp] theorem putCell_romwin (k : Nat) (v : Byte) : (s.putCell k v).romwin = s.romwin := rfl
@[simp] theorem putCell_romwinWritten (k : Nat) (v : Byte) : (s.putCell k v).romwinWritten = s.romwinWritten := rfl
@[simp] theorem putCell_model (k : Nat) (v : Byte) : (s.putCell k v).model = s.model := rfl
@[simp] theorem putCell_modelSet (k : Nat) (v : Byte) : (s.putCell k v).modelSet = s.modelSet := rfl
@[simp] theorem putCell_ddFetch (k : Nat) (v : Byte) : (s.putCell k v).ddFetch = s.ddFetch := rfl
@[simp] theorem putCell_data (k : Nat) (v : Byte) : (s.putCell k v).data = Memory.write dataDefault s.data k v := rfl
@[simp] theorem putCell_prog (k : Nat) (v : Byte) : (s.putCell k v).prog = s.prog := rfl
@[simp] theorem putCell_inputs (k : Nat) (v : Byte) : (s.putCell k v).inputs = s.inputs := rfl
@[simp] theorem putCell_draws (k : Nat) (v : Byte) : (s.putCell k v).draws = s.draws := rfl
@[simp] theorem putCell_dev (k : Nat) (v : Byte) : (s.putCell k v).dev = s.dev := rfl

@[simp] theorem setDD_a (b : Bool) : (s.setDD b).a = s.a := rfl
@[simp] theorem setDD_psw (b : Bool) : (s.setDD b).psw = Psw.setDd s.psw b := rfl
@[simp] theorem setDD_pc (b : Bool) : (s.setDD b).pc = s.pc := rfl
@[simp] theorem setDD_lrb (b : Bool) : (s.setDD b).lrb = s.lrb := rfl
@[simp] theorem setDD_ssp (b : Bool) : (s.setDD b).ssp = s.ssp := rfl
@[simp] theorem setDD_csr (b : Bool) : (s.setDD b).csr = s.csr := rfl
@[simp] theorem setDD_tsr (b : Bool) : (s.setDD b).tsr = s.tsr := rfl
@[simp] theorem setDD_dsr (b : Bool) : (s.setDD b).dsr = s.dsr := rfl
@[simp] theorem setDD_romwin (b : Bool) : (s.setDD b).romwin = s.romwin := rfl
@[simp] theorem setDD_romwinWritten (b : Bool) : (s.setDD b).romwinWritten = s.romwinWritten := rfl
@[simp] theorem setDD_model (b : Bool) : (s.setDD b).model = s.model := rfl
@[simp] theorem setDD_modelSet (b : Bool) : (s.setDD b).modelSet = s.modelSet := rfl
@[simp] theorem setDD_ddFetch (b : Bool) : (s.setDD b).ddFetch = s.ddFetch := rfl
@[simp] theorem setDD_data (b : Bool) : (s.setDD b).data = s.data := rfl
@[simp] theorem setDD_prog (b : Bool) : (s.setDD b).prog = s.prog := rfl
@[simp] theorem setDD_inputs (b : Bool) : (s.setDD b).inputs = s.inputs := rfl
@[simp] theorem setDD_draws (b : Bool) : (s.setDD b).draws = s.draws := rfl
@[simp] theorem setDD_dev (b : Bool) : (s.setDD b).dev = s.dev := rfl

@[simp] theorem loadWord_a (v : Word) : (s.loadWord v).a = v := rfl
@[simp] theorem loadWord_psw (v : Word) : (s.loadWord v).psw = Psw.setDd (Psw.setZ s.psw (v == 0)) true := rfl
@[simp] theorem loadWord_pc (v : Word) : (s.loadWord v).pc = s.pc := rfl
@[simp] theorem loadWord_lrb (v : Word) : (s.loadWord v).lrb = s.lrb := rfl
@[simp] theorem loadWord_ssp (v : Word) : (s.loadWord v).ssp = s.ssp := rfl
@[simp] theorem loadWord_csr (v : Word) : (s.loadWord v).csr = s.csr := rfl
@[simp] theorem loadWord_tsr (v : Word) : (s.loadWord v).tsr = s.tsr := rfl
@[simp] theorem loadWord_dsr (v : Word) : (s.loadWord v).dsr = s.dsr := rfl
@[simp] theorem loadWord_romwin (v : Word) : (s.loadWord v).romwin = s.romwin := rfl
@[simp] theorem loadWord_romwinWritten (v : Word) : (s.loadWord v).romwinWritten = s.romwinWritten := rfl
@[simp] theorem loadWord_model (v : Word) : (s.loadWord v).model = s.model := rfl
@[simp] theorem loadWord_modelSet (v : Word) : (s.loadWord v).modelSet = s.modelSet := rfl
@[simp] theorem loadWord_ddFetch (v : Word) : (s.loadWord v).ddFetch = s.ddFetch := rfl
@[simp] theorem loadWord_data (v : Word) : (s.loadWord v).data = s.data := rfl
@[simp] theorem loadWord_prog (v : Word) : (s.loadWord v).prog = s.prog := rfl
@[simp] theorem loadWord_inputs (v : Word) : (s.loadWord v).inputs = s.inputs := rfl
@[simp] theorem loadWord_draws (v : Word) : (s.loadWord v).draws = s.draws := rfl
@[simp] theorem loadWord_dev (v : Word) : (s.loadWord v).dev = s.dev := rfl

@[simp] theorem loadByte_a (v : Byte) : (s.loadByte v).a = setLo s.a v := rfl
@[simp] theorem loadByte_psw (v : Byte) : (s.loadByte v).psw = Psw.setDd (Psw.setZ s.psw (v == 0)) false := rfl
@[simp] theorem loadByte_pc (v : Byte) : (s.loadByte v).pc = s.pc := rfl
@[simp] theorem loadByte_lrb (v : Byte) : (s.loadByte v).lrb = s.lrb := rfl
@[simp] theorem loadByte_ssp (v : Byte) : (s.loadByte v).ssp = s.ssp := rfl
@[simp] theorem loadByte_csr (v : Byte) : (s.loadByte v).csr = s.csr := rfl
@[simp] theorem loadByte_tsr (v : Byte) : (s.loadByte v).tsr = s.tsr := rfl
@[simp] theorem loadByte_dsr (v : Byte) : (s.loadByte v).dsr = s.dsr := rfl
@[simp] theorem loadByte_romwin (v : Byte) : (s.loadByte v).romwin = s.romwin := rfl
@[simp] theorem loadByte_romwinWritten (v : Byte) : (s.loadByte v).romwinWritten = s.romwinWritten := rfl
@[simp] theorem loadByte_model (v : Byte) : (s.loadByte v).model = s.model := rfl
@[simp] theorem loadByte_modelSet (v : Byte) : (s.loadByte v).modelSet = s.modelSet := rfl
@[simp] theorem loadByte_ddFetch (v : Byte) : (s.loadByte v).ddFetch = s.ddFetch := rfl
@[simp] theorem loadByte_data (v : Byte) : (s.loadByte v).data = s.data := rfl
@[simp] theorem loadByte_prog (v : Byte) : (s.loadByte v).prog = s.prog := rfl
@[simp] theorem loadByte_inputs (v : Byte) : (s.loadByte v).inputs = s.inputs := rfl
@[simp] theorem loadByte_draws (v : Byte) : (s.loadByte v).draws = s.draws := rfl
@[simp] theorem loadByte_dev (v : Byte) : (s.loadByte v).dev = s.dev := rfl

end Sys2Proof.Machine.State
end

