-- ==== Sys2Proof/Laws/Ops.lean ====
section
/-! SUPPORT. What each shared operation can do, said once: a proof about an instruction cites these and unfolds none of them. -/

namespace Sys2Proof.Machine

/-! ## Results and how an instruction ends -/

theorem res_bind_ok {α β : Type} {x : Res α} {f : α → Res β} {b : β} :
    (x >>= f) = .ok b ↔ ∃ a, x = .ok a ∧ f a = .ok b := by
  cases x with
  | error e => simp [bind, Except.bind]
  | ok a => simp [bind, Except.bind]

@[simp] theorem res_ok_bind {α β : Type} (a : α) (f : α → Res β) : ((.ok a : Res α) >>= f) = f a := rfl

@[simp] theorem res_error_bind {α β : Type} (e : Stop) (f : α → Res β) : ((.error e : Res α) >>= f) = .error e := rfl

@[simp] theorem res_pure {α : Type} (a : α) : (pure a : Res α) = .ok a := rfl

@[simp] theorem stopFault_ne_ok {α : Type} (f : Fault) (a : α) : (stopFault f : Res α) ≠ .ok a := by simp [stopFault]

@[simp] theorem stopRefused_ne_ok {α : Type} (f : Refusal) (a : α) : (stopRefused f : Res α) ≠ .ok a := by
  simp [stopRefused]

theorem finish_next {r : Res State} {u : State} : finish r = .next u ↔ r = .ok u := by
  cases r with
  | error e => cases e <;> simp [finish]
  | ok t => simp [finish]

/-- An instruction that ends with `retire` answers its operation's state with DD_FETCH from the PSW before it. -/
theorem retire_next {s u : State} {r : Res State} :
    retire s r = .next u ↔ ∃ t, r = .ok t ∧ u = t.setDdFetch (Psw.dd s.psw) := by
  simp only [retire, finish_next, res_bind_ok, res_pure, Except.ok.injEq, eq_comm (a := u)]

@[simp] theorem retire_ok (s t : State) : retire s (.ok t) = .next (t.setDdFetch (Psw.dd s.psw)) := rfl

theorem retireSync_next {u : State} {r : Res State} :
    retireSync r = .next u ↔ ∃ t, r = .ok t ∧ u = t.setDdFetch (Psw.dd t.psw) := by
  simp only [retireSync, finish_next, res_bind_ok, res_pure, Except.ok.injEq, eq_comm (a := u)]

@[simp] theorem retireSync_ok (t : State) : retireSync (.ok t) = .next (t.setDdFetch (Psw.dd t.psw)) := rfl

theorem retireDraw_next {s u : State} {r : Res State} :
    retireDraw s r = .next u ↔ ∃ t, r = .ok t ∧
      u = (t.draw 1).setDdFetch (if Config.freeBit t.draws then Psw.dd t.psw else Psw.dd s.psw) := by
  simp only [retireDraw, finish_next, res_bind_ok, res_pure, Except.ok.injEq, eq_comm (a := u)]

theorem classW_next {s u : State} {k : Host.Outcome State Fault Refusal} :
    classW s k = .next u ↔ s.ddFetch = true ∧ k = .next u := by
  unfold classW; split <;> simp_all

theorem classB_next {s u : State} {k : Host.Outcome State Fault Refusal} :
    classB s k = .next u ↔ s.ddFetch = false ∧ k = .next u := by
  unfold classB; split <;> simp_all

/-! ## One byte of data memory -/

@[simp] theorem cell_putCell_self (s : State) (a : Nat) (v : Byte) : (s.putCell a v).cell a = some v := by
  simp [State.cell]

theorem cell_putCell_other (s : State) {a b : Nat} (v : Byte) (h : b ≠ a) : (s.putCell a v).cell b = s.cell b := by
  simp [State.cell, Memory.read_write_other _ _ _ _ _ h]

/-- The cell of a state depends on its data memory alone. -/
theorem cell_congr {s t : State} (h : t.data = s.data) (a : Nat) : t.cell a = s.cell a := by simp [State.cell, h]

/-! ## What a store can do -/

/-- What holds after any store to the bytes `bs`: PC, CSR, the model, program memory, the environment, the device, DD_FETCH and
every other byte are as before. -/
structure Wrote (bs : List Nat) (s t : State) : Prop where
  pc : t.pc = s.pc
  csr : t.csr = s.csr
  model : t.model = s.model
  modelSet : t.modelSet = s.modelSet
  prog : t.prog = s.prog
  inputs : t.inputs = s.inputs
  dev : t.dev = s.dev
  ddFetch : t.ddFetch = s.ddFetch
  draws : t.draws = s.draws
  cells : SameCells bs s t
  inv : Inv s → Inv t

theorem Wrote.refl (bs : List Nat) (s : State) : Wrote bs s s :=
  ⟨rfl, rfl, rfl, rfl, rfl, rfl, rfl, rfl, rfl, fun _ _ => rfl, id⟩

theorem Wrote.trans {bs cs ds : List Nat} {s t u : State} (h : Wrote bs s t) (k : Wrote cs t u)
    (hb : ∀ a, a ∈ bs → a ∈ ds) (hc : ∀ a, a ∈ cs → a ∈ ds) : Wrote ds s u :=
  ⟨k.pc.trans h.pc, k.csr.trans h.csr, k.model.trans h.model, k.modelSet.trans h.modelSet, k.prog.trans h.prog,
    k.inputs.trans h.inputs, k.dev.trans h.dev, k.ddFetch.trans h.ddFetch, k.draws.trans h.draws,
    fun a ha => (k.cells a fun m => ha (hc a m)).trans (h.cells a fun m => ha (hb a m)), fun i => k.inv (h.inv i)⟩

theorem segMask_idem (v : Byte) (n : Nat) : (v &&& segMask n) &&& segMask n = v &&& segMask n := by
  rw [BitVec.and_assoc, BitVec.and_self]

/-- An update that leaves everything the invariant speaks of keeps the invariant. -/
theorem Inv.congr {s t : State} (i : Inv s) (hd : t.data = s.data) (hp : t.prog = s.prog) (h1 : t.csr = s.csr)
    (h2 : t.tsr = s.tsr) (h3 : t.dsr = s.dsr) (h4 : t.romwin = s.romwin) (h5 : t.romwinWritten = s.romwinWritten)
    (h6 : t.model = s.model) (h7 : t.modelSet = s.modelSet) (h8 : t.dev = s.dev) : Inv t :=
  ⟨by rw [hd]; exact i.dataWf, by rw [hp]; exact i.progWf, by rw [h1, h8]; exact i.csrBits,
    by rw [h2, h8]; exact i.tsrBits, by rw [h3, h8]; exact i.dsrBits, by rw [h4, h5]; exact i.romwinShut,
    by rw [h6, h7]; exact i.modelSmall, by rw [h6, h7, h8]; exact i.modelPermitted⟩

theorem Inv.setA {s : State} (i : Inv s) (v : Word) : Inv (s.setA v) := i.congr rfl rfl rfl rfl rfl rfl rfl rfl rfl rfl
theorem Inv.setPsw {s : State} (i : Inv s) (v : Word) : Inv (s.setPsw v) := i.congr rfl rfl rfl rfl rfl rfl rfl rfl rfl rfl
theorem Inv.setPc {s : State} (i : Inv s) (v : Word) : Inv (s.setPc v) := i.congr rfl rfl rfl rfl rfl rfl rfl rfl rfl rfl
theorem Inv.setLrb {s : State} (i : Inv s) (v : Word) : Inv (s.setLrb v) := i.congr rfl rfl rfl rfl rfl rfl rfl rfl rfl rfl
theorem Inv.setSsp {s : State} (i : Inv s) (v : Word) : Inv (s.setSsp v) := i.congr rfl rfl rfl rfl rfl rfl rfl rfl rfl rfl
theorem Inv.setDdFetch {s : State} (i : Inv s) (v : Bool) : Inv (s.setDdFetch v) :=
  i.congr rfl rfl rfl rfl rfl rfl rfl rfl rfl rfl
theorem Inv.setInputs {s : State} (i : Inv s) (l : List (List Event)) : Inv (s.setInputs l) :=
  i.congr rfl rfl rfl rfl rfl rfl rfl rfl rfl rfl
theorem Inv.draw {s : State} (i : Inv s) (n : Nat) : Inv (s.draw n) := i.congr rfl rfl rfl rfl rfl rfl rfl rfl rfl rfl

theorem Inv.setCsr {s : State} (i : Inv s) (v : Byte) : Inv (s.setCsr v) :=
  { i with csrBits := segMask_idem v _ }
theorem Inv.setTsr {s : State} (i : Inv s) (v : Byte) : Inv (s.setTsr v) :=
  { i with tsrBits := segMask_idem v _ }
theorem Inv.setDsr {s : State} (i : Inv s) (v : Byte) : Inv (s.setDsr v) :=
  { i with dsrBits := segMask_idem v _ }
theorem Inv.setRomwin {s : State} (i : Inv s) (v : Byte) : Inv (s.setRomwin v) := by
  unfold State.setRomwin
  split
  · exact i
  · exact { i with romwinShut := fun h => absurd h (by simp) }
theorem Inv.putCell {s : State} (i : Inv s) {a : Nat} (v : Byte) (h : a < 0x1000000) : Inv (s.putCell a v) :=
  { i with dataWf := Memory.wf_write dataDefault s.data a v h i.dataWf }

theorem wrote_putCell (s : State) (a : Nat) (v : Byte) (h : a < 0x1000000) : Wrote [a] s (s.putCell a v) :=
  ⟨rfl, rfl, rfl, rfl, rfl, rfl, rfl, rfl, rfl,
    fun b hb => cell_putCell_other s v (by simpa using hb), fun i => i.putCell v h⟩

/-- Every SFR write that is answered. -/
theorem sfrWrite_wrote {s t : State} {off : Word} {v : Byte} (h : sfrWrite s off v = .ok t) :
    Wrote [key 0 off] s t := by
  have hk : key 0 off = off.toNat := by simp [key]
  unfold sfrWrite at h
  split at h <;> first
    | (cases h; exact ⟨rfl, rfl, rfl, rfl, rfl, rfl, rfl, rfl, rfl, fun _ _ => rfl, fun i => by
        first | exact i.setSsp _ | exact i.setLrb _ | exact i.setPsw _ | exact i.setA _ | exact i.setTsr _
              | exact i.setDsr _⟩)
    | skip
  · cases h
    refine ⟨?_, ?_, ?_, ?_, ?_, ?_, ?_, ?_, ?_, ?_, fun i => i.setRomwin _⟩ <;>
      (unfold State.setRomwin; split <;> first | rfl | exact fun _ _ => rfl)
  · simp at h
  all_goals try split at h
  all_goals first
    | (cases h; rw [hk]; exact wrote_putCell s _ _ (by omega))
    | simp at h

theorem memWriteByte_wrote {s t : State} {seg : Byte} {off : Word} {v : Byte} (h : memWriteByte s seg off v = .ok t) :
    Wrote [key seg off] s t := by
  unfold memWriteByte at h
  split at h
  · next hs =>
    have : seg = 0 := by simp [isSfr] at hs; exact hs.1
    subst this
    exact sfrWrite_wrote h
  · split at h
    · cases h; exact wrote_putCell s _ v (Memory.key_lt seg off)
    · simp at h

/-- A byte store outside the SFR area: one byte of memory that is there, and nothing else. -/
theorem memWriteByte_plain {s : State} {seg : Byte} {off : Word} (v : Byte) (hs : isSfr seg off = false) :
    memWriteByte s seg off v =
      if inRanges s.dev.dataPresent (key seg off) then .ok (s.putCell (key seg off) v) else stopFault .absentData := by
  simp [memWriteByte, hs]

theorem evenOff_toNat (off : Word) : (evenOff off).toNat = off.toNat / 2 * 2 := by
  have : evenOff off = (off >>> 1) <<< 1 := by
    apply BitVec.eq_of_getLsbD_eq
    intro i hi
    simp only [evenOff, BitVec.getLsbD_and, BitVec.getLsbD_shiftLeft, BitVec.getLsbD_ushiftRight]
    rcases i with _ | i
    · simp
    · have h1 : i < 15 := by omega
      interval_cases i <;> simp
  rw [this]
  simp [BitVec.toNat_shiftLeft, BitVec.toNat_ushiftRight, Nat.shiftLeft_eq, Nat.shiftRight_eq_div_pow]
  omega

@[simp] theorem evenOff_idem (off : Word) : evenOff (evenOff off) = evenOff off := by
  simp [evenOff, BitVec.and_assoc]

theorem evenOff_succ_toNat (off : Word) : (evenOff off + 1).toNat = off.toNat / 2 * 2 + 1 := by
  rw [BitVec.toNat_add, evenOff_toNat]
  simp
  omega

theorem key_evenOff_succ (seg : Byte) (off : Word) : key seg (evenOff off + 1) = key seg (evenOff off) + 1 := by
  simp only [key, evenOff_succ_toNat, evenOff_toNat]; omega

/-- The two bytes of a word are both in the SFR area or both outside it. -/
theorem isSfr_evenOff (seg : Byte) (off : Word) : isSfr seg (evenOff off) = isSfr seg off := by
  simp only [isSfr, evenOff_toNat]
  congr 1
  rw [decide_eq_decide]
  omega

theorem isSfr_evenOff_succ (seg : Byte) (off : Word) : isSfr seg (evenOff off + 1) = isSfr seg off := by
  simp only [isSfr, evenOff_succ_toNat]
  congr 1
  rw [decide_eq_decide]
  omega

theorem memWriteWord_wrote {s t : State} {seg : Byte} {off v : Word} (h : memWriteWord s seg off v = .ok t) :
    Wrote (wordBytes seg off) s t := by
  obtain ⟨u, h1, h2⟩ := res_bind_ok.mp h
  refine (memWriteByte_wrote h1).trans (memWriteByte_wrote h2) ?_ ?_
  · intro a ha; simp_all [wordBytes]
  · intro a ha; simp_all [wordBytes]

/-- A word store outside the SFR area: both bytes are there, and nothing else changes. -/
theorem memWriteWord_plain {s t : State} {seg : Byte} {off v : Word} (hs : isSfr seg off = false)
    (h : memWriteWord s seg off v = .ok t) :
    inRanges s.dev.dataPresent (key seg (evenOff off)) = true ∧
    inRanges s.dev.dataPresent (key seg (evenOff off) + 1) = true ∧
    t = (s.putCell (key seg (evenOff off)) (loByte v)).putCell (key seg (evenOff off) + 1) (hiByte v) := by
  obtain ⟨u, h1, h2⟩ := res_bind_ok.mp h
  rw [memWriteByte_plain _ ((isSfr_evenOff seg off).trans hs)] at h1
  split at h1
  · next hp =>
    cases h1
    rw [memWriteByte_plain _ ((isSfr_evenOff_succ seg off).trans hs), key_evenOff_succ] at h2
    split at h2
    · next hp2 => cases h2; exact ⟨hp, hp2, rfl⟩
    · simp at h2
  · simp at h1

/-- A word store outside the SFR area succeeds where both bytes are there. -/
theorem memWriteWord_ok {s : State} {seg : Byte} {off : Word} (v : Word) (hs : isSfr seg off = false)
    (h1 : inRanges s.dev.dataPresent (key seg (evenOff off)) = true)
    (h2 : inRanges s.dev.dataPresent (key seg (evenOff off) + 1) = true) :
    memWriteWord s seg off v =
      .ok ((s.putCell (key seg (evenOff off)) (loByte v)).putCell (key seg (evenOff off) + 1) (hiByte v)) := by
  unfold memWriteWord
  rw [memWriteByte_plain _ ((isSfr_evenOff seg off).trans hs), if_pos h1, res_ok_bind,
    memWriteByte_plain _ ((isSfr_evenOff_succ seg off).trans hs), key_evenOff_succ]
  exact if_pos h2

theorem dWriteByte_wrote {s t : State} {off : Word} {v : Byte} (h : dWriteByte s off v = .ok t) :
    Wrote [key (s.physSeg off) off] s t := by
  unfold dWriteByte at h
  split at h
  · simp at h
  · exact memWriteByte_wrote h

theorem dWriteWord_wrote {s t : State} {off v : Word} (h : dWriteWord s off v = .ok t) :
    Wrote (wordBytes (s.physSeg off) off) s t := by
  unfold dWriteWord at h
  split at h
  · simp at h
  · exact memWriteWord_wrote h

theorem wrote_setA (bs : List Nat) (s : State) (v : Word) : Wrote bs s (s.setA v) :=
  ⟨rfl, rfl, rfl, rfl, rfl, rfl, rfl, rfl, rfl, fun _ _ => rfl, fun i => i.setA v⟩

theorem wrote_setPsw (bs : List Nat) (s : State) (v : Word) : Wrote bs s (s.setPsw v) :=
  ⟨rfl, rfl, rfl, rfl, rfl, rfl, rfl, rfl, rfl, fun _ _ => rfl, fun i => i.setPsw v⟩

/-- A word read of a data location that is answered: no exception to the word boundary, and what the address gives. -/
theorem rdW_data_ok {s : State} {off v : Word} :
    rdW (.data off) s = .ok v ↔ sfrOddWord s off = false ∧ dReadWord s off = .ok v := by
  simp only [rdW]; split <;> simp_all

/-- A word store to a data location that is answered. -/
theorem wrW_data_ok {s t : State} {off v : Word} :
    wrW (.data off) v s = .ok t ↔ sfrOddWord s off = false ∧ dWriteWord s off v = .ok t := by
  simp only [wrW]; split <;> simp_all

/-- Outside the SFR area no exception to the word boundary is made. -/
theorem sfrOddWord_plain {s : State} {off : Word} (h : isSfr (s.physSeg off) off = false) : sfrOddWord s off = false := by
  simp [sfrOddWord, h]

/-- At an even offset no exception to the word boundary is made. -/
theorem sfrOddWord_even {s : State} {off : Word} (h : off.getLsbD 0 = false) : sfrOddWord s off = false := by
  simp only [sfrOddWord, h, Bool.and_false, Bool.false_and]

/-- A word store to a location. -/
theorem wrW_wrote {s t : State} {l : Loc} {v : Word} (h : wrW l v s = .ok t) : Wrote (l.bytesW s) s t := by
  cases l with
  | acc => cases h; exact wrote_setA _ s v
  | phys p => exact memWriteWord_wrote h
  | psw b => cases h; exact wrote_setPsw _ s v
  | data off => exact dWriteWord_wrote (wrW_data_ok.mp h).2

/-- A byte store to a location. -/
theorem wrB_wrote {s t : State} {l : Loc} {v : Byte} (h : wrB l v s = .ok t) : Wrote (l.bytesB s) s t := by
  cases l with
  | acc => cases h; exact wrote_setA _ s _
  | phys p => exact memWriteByte_wrote h
  | psw b => cases h; exact wrote_setPsw _ s _
  | data off => exact dWriteByte_wrote h

/-! ## Pointing and local registers -/

theorem prAddr_toNat (s : State) (n : PR) : (s.prAddr n).toNat = 0x200 + 8 * (Psw.scb s.psw).toNat + 2 * n.num := by
  have h := (Psw.scb s.psw).isLt
  cases n <;> simp [State.prAddr, PR.num, BitVec.toNat_add, BitVec.toNat_mul] <;> omega

theorem rAddr_toNat (s : State) (n : Nat) (h : n < 8) :
    (s.rAddr n).toNat = 0x200 + 8 * (loByte s.lrb).toNat + n := by
  have h1 := (loByte s.lrb).isLt
  simp [State.rAddr, zext, BitVec.toNat_add, BitVec.toNat_mul]
  omega

theorem isSfr_prAddr (s : State) (n : PR) : isSfr 0 (s.prAddr n) = false := by
  simp [isSfr, prAddr_toNat]; omega

theorem isSfr_rAddr (s : State) (n : Nat) (h : n < 8) : isSfr 0 (s.rAddr n) = false := by
  simp [isSfr, rAddr_toNat s n h]; omega

theorem evenOff_prAddr (s : State) (n : PR) : evenOff (s.prAddr n) = s.prAddr n :=
  BitVec.eq_of_toNat_eq (by rw [evenOff_toNat, prAddr_toNat]; omega)

theorem putCell_putCell (s : State) (a b : Nat) (v w : Byte) :
    (s.putCell a v).putCell b w = s.setData ((s.putCell a v).putCell b w).data := rfl

/-- A write of DP: its two bytes, and nothing else. -/
theorem prWrite_dp {s t : State} {v : Word} (h : prWrite s .dp v = .ok t) :
    Wrote s.dpBytes s t ∧ t = s.setData t.data := by
  have hw := memWriteWord_wrote h
  have hp := (memWriteWord_plain (isSfr_prAddr s .dp) h).2.2
  rw [wordBytes, evenOff_prAddr] at hw
  refine ⟨hw, ?_⟩
  rw [hp]
  exact putCell_putCell s _ _ _ _

/-! ## Locating an operand -/

/-- Locating an operand in a memory mode changes nothing but DP, and DP only in the two DP-moving modes. -/
theorem modeLoc_ok {st : Word} {m : Mode} {s t : State} {l : Loc} (h : modeLoc st m s = .ok (l, t)) :
    t = s ∨ (Mode.movesDp m = true ∧ Wrote s.dpBytes s t ∧ t = s.setData t.data) := by
  cases m <;> simp only [modeLoc, res_bind_ok, res_pure, Except.ok.injEq, Prod.mk.injEq] at h
  case dpDec => obtain ⟨x, _, u, hu, _, rfl⟩ := h; exact .inr ⟨rfl, prWrite_dp hu⟩
  case dpInc => obtain ⟨x, _, u, hu, _, rfl⟩ := h; exact .inr ⟨rfl, prWrite_dp hu⟩
  case x1R0 => obtain ⟨_, _, _, _, _, rfl⟩ := h; exact .inl rfl
  all_goals (obtain ⟨_, _, _, rfl⟩ := h; exact .inl rfl)

theorem modeLoc_data {st : Word} {m : Mode} {s t : State} {l : Loc} (h : modeLoc st m s = .ok (l, t)) :
    ∃ off, l = .data off := by
  cases m <;> simp only [modeLoc, res_bind_ok, res_pure, Except.ok.injEq, Prod.mk.injEq] at h
  case dpDec => obtain ⟨x, _, u, hu, rfl, _⟩ := h; exact ⟨_, rfl⟩
  case dpInc => obtain ⟨x, _, u, hu, rfl, _⟩ := h; exact ⟨_, rfl⟩
  case x1R0 => obtain ⟨_, _, _, _, rfl, _⟩ := h; exact ⟨_, rfl⟩
  all_goals first
    | (obtain ⟨_, _, rfl, _⟩ := h; exact ⟨_, rfl⟩)
    | (obtain ⟨rfl, _⟩ := h; exact ⟨_, rfl⟩)

theorem locW_ok {p : WOp} {s t : State} {l : Loc} (h : locW p s = .ok (l, t)) :
    t = s ∨ (WOp.movesDp p = true ∧ Wrote s.dpBytes s t ∧ t = s.setData t.data) := by
  cases p with
  | mem m => exact modeLoc_ok h
  | acc => cases h; exact .inl rfl
  | er n => cases h; exact .inl rfl
  | pr n => cases h; exact .inl rfl

theorem locB_ok {p : BOp} {s t : State} {l : Loc} (h : locB p s = .ok (l, t)) :
    t = s ∨ (BOp.movesDp p = true ∧ Wrote s.dpBytes s t ∧ t = s.setData t.data) := by
  cases p with
  | mem m => exact modeLoc_ok h
  | acc => cases h; exact .inl rfl
  | r n => cases h; exact .inl rfl
  | pswl => cases h; exact .inl rfl
  | pswh => cases h; exact .inl rfl

theorem srcLocW_ok {q : Src 16} {s t : State} {l : Loc ⊕ Word} (h : srcLocW q s = .ok (l, t)) :
    t = s ∨ (Src.movesDp q = true ∧ Wrote s.dpBytes s t ∧ t = s.setData t.data) := by
  cases q with
  | mem m =>
    obtain ⟨⟨l', t'⟩, h1, h2⟩ := res_bind_ok.mp h
    cases h2
    exact modeLoc_ok h1
  | imm v => cases h; exact .inl rfl
  | acc => cases h; exact .inl rfl

theorem srcLocB_ok {q : Src 8} {s t : State} {l : Loc ⊕ Byte} (h : srcLocB q s = .ok (l, t)) :
    t = s ∨ (Src.movesDp q = true ∧ Wrote s.dpBytes s t ∧ t = s.setData t.data) := by
  cases q with
  | mem m =>
    obtain ⟨⟨l', t'⟩, h1, h2⟩ := res_bind_ok.mp h
    cases h2
    exact modeLoc_ok h1
  | imm v => cases h; exact .inl rfl
  | acc => cases h; exact .inl rfl

theorem locBit_ok {b : BitOperand} {s t : State} {l : Loc} (h : locBit b s = .ok (l, t)) :
    t = s ∨ (BitOperand.movesDp b = true ∧ Wrote s.dpBytes s t ∧ t = s.setData t.data) := by
  cases b with
  | pre p => exact locB_ok h
  | sbafix k => cases h; exact .inl rfl
  | sbaoff k => cases h; exact .inl rfl

/-! ## The system stack -/

/-- A push stores one word at 0:SSP and moves SSP down. -/
theorem push16_ok {s t : State} {v : Word} (h : push16 s v = .ok t) :
    s.throughWindow 0 s.ssp = false ∧ ∃ u, memWriteWord s 0 s.ssp v = .ok u ∧ t = u.setSsp (u.ssp - 2) := by
  unfold push16 at h
  split at h
  · simp at h
  · next hw =>
    obtain ⟨u, h1, h2⟩ := res_bind_ok.mp h
    cases h2
    exact ⟨by simpa using hw, u, h1, rfl⟩

theorem wrote_setSsp (bs : List Nat) (s : State) (v : Word) : Wrote bs s (s.setSsp v) :=
  ⟨rfl, rfl, rfl, rfl, rfl, rfl, rfl, rfl, rfl, fun _ _ => rfl, fun i => i.setSsp v⟩

theorem push16_wrote {s t : State} {v : Word} (h : push16 s v = .ok t) : Wrote (wordBytes 0 s.ssp) s t := by
  obtain ⟨_, u, hu, rfl⟩ := push16_ok h
  exact (memWriteWord_wrote hu).trans (wrote_setSsp (wordBytes 0 s.ssp) u _) (fun _ h => h) (fun _ h => h)

/-- A push to ordinary memory completes. -/
theorem push16_plain {s : State} (v : Word) (h : PlainWord s s.ssp) :
    push16 s v = .ok (((s.putCell (key 0 (evenOff s.ssp)) (loByte v)).putCell (key 0 (evenOff s.ssp) + 1) (hiByte v)).setSsp
      (s.ssp - 2)) := by
  obtain ⟨h1, h2, h3, h4⟩ := h
  rw [key_evenOff_succ] at h3
  unfold push16
  rw [h4, if_neg Bool.false_ne_true, memWriteWord_ok v h1 h2 h3, res_ok_bind, res_pure]
  simp only [State.putCell, State.setData_ssp]

@[simp] theorem pushEach_nil (s : State) : pushEach [] s = .ok s := rfl

@[simp] theorem pushEach_unnamed (f : State → Res Word) (t : List (Bool × (State → Res Word))) (s : State) :
    pushEach ((false, f) :: t) s = pushEach t s := rfl

/-- A named register is read, then pushed, before the registers after it. -/
theorem pushEach_named {f : State → Res Word} {t : List (Bool × (State → Res Word))} {s u : State} :
    pushEach ((true, f) :: t) s = .ok u ↔ ∃ w r, f s = .ok w ∧ push16 s w = .ok r ∧ pushEach t r = .ok u := by
  simp only [pushEach, if_true, res_bind_ok]
  constructor
  · rintro ⟨w, hw, r, hr, h⟩; exact ⟨w, r, hw, hr, h⟩
  · rintro ⟨w, r, hw, hr, h⟩; exact ⟨w, hw, r, hr, h⟩

/-- Pushing a list of registers changes neither PC, CSR, program memory, the device nor the environment, and keeps the invariant. -/
theorem pushEach_wrote {l : List (Bool × (State → Res Word))} {s u : State} (h : pushEach l s = .ok u) :
    u.pc = s.pc ∧ u.csr = s.csr ∧ u.prog = s.prog ∧ u.dev = s.dev ∧ u.inputs = s.inputs ∧ (Inv s → Inv u) := by
  induction l generalizing s with
  | nil => cases h; exact ⟨rfl, rfl, rfl, rfl, rfl, id⟩
  | cons e l ih =>
    obtain ⟨b, f⟩ := e
    cases b with
    | false => exact ih h
    | true =>
      obtain ⟨w, r, _, hr, h⟩ := pushEach_named.mp h
      have k := push16_wrote hr
      obtain ⟨h1, h2, h3, h4, h5, h6⟩ := ih h
      exact ⟨h1.trans k.pc, h2.trans k.csr, h3.trans k.prog, h4.trans k.dev, h5.trans k.inputs, fun i => h6 (k.inv i)⟩

/-- A pop changes SSP alone. -/
theorem pop16_ok {s t : State} {v : Word} (h : pop16 s = .ok (v, t)) :
    t = s.setSsp (s.ssp + 2) ∧ memReadWord t 0 t.ssp = .ok v ∧ t.throughWindow 0 t.ssp = false := by
  simp only [pop16] at h
  split at h
  · simp at h
  · next hw =>
    obtain ⟨x, h1, h2⟩ := res_bind_ok.mp h
    cases h2
    exact ⟨rfl, h1, by simpa using hw⟩

theorem pop16_wrote {s t : State} {v : Word} (h : pop16 s = .ok (v, t)) : Wrote [] s t := by
  rw [(pop16_ok h).1]; exact wrote_setSsp _ s _

end Sys2Proof.Machine
end

