-- ==== Sys2Proof/Laws/Shapes.lean ====
section
/-! SUPPORT. Every instruction with a shape runs the shared operation of its shape: a proof about one shape covers all its
instructions. -/

namespace Sys2Proof.Machine

/-- The table offset of a ROM reference: the pointer's value plus the base, or the base alone (R360). -/
def tablePtr (p : Option WOp) (base : Word) (s : State) : Res (Word × State) :=
  match p with
  | some p => tableOff p base s
  | none => .ok (base, s)

/-- What a shape runs. -/
def Shape.run (sh : Shape) (s : State) : Host.Outcome State Fault Refusal :=
  match sh with
  | .loadW p => Sys2Proof.Machine.loadW p s
  | .loadB p => Sys2Proof.Machine.loadB p s
  | .loadImmW v => retireSync (.ok (s.loadWord v))
  | .loadImmB v => retireSync (.ok (s.loadByte v))
  | .moveW d p => Sys2Proof.Machine.moveW d p s
  | .moveB d p => Sys2Proof.Machine.moveB d p s
  | .constW p v => moveImmW p v s
  | .constB p v => moveImmB p v s
  | .exchW p => classW s (exchangeW p s)
  | .exchB p => classB s (exchangeB p s)
  | .shiftW op p n => Sys2Proof.Machine.shiftW op p n s
  | .shiftB op p n => Sys2Proof.Machine.shiftB op p n s
  | .incDecW dec p => Sys2Proof.Machine.incDecW dec p s
  | .incDecB dec p => Sys2Proof.Machine.incDecB dec p s
  | .aluAW c op p => if c then classW s (Sys2Proof.Machine.aluAW op p s) else Sys2Proof.Machine.aluAW op p s
  | .aluAB c op p => if c then classB s (Sys2Proof.Machine.aluAB op p s) else Sys2Proof.Machine.aluAB op p s
  | .aluImmW op v => aluAImmW op v s
  | .aluImmB op v => aluAImmB op v s
  | .aluMW op p q => Sys2Proof.Machine.aluMW op p q s
  | .aluMB op p q => Sys2Proof.Machine.aluMB op p q s
  | .tableW cmp p base =>
    retire s (do
      let (off, t) ← tablePtr p base s
      if cmp then tableCmpW t off else tableLoadW t off)
  | .tableB cmp p base =>
    retire s (do
      let (off, t) ← tablePtr p base s
      if cmp then tableCmpB t off else tableLoadB t off)
  | .bitSet v b bit => retire s (do let (l, t) ← locBit b s; putBitZ l bit.val v t)
  | .bitCarry op p bit => atBit p (fun l t => bitToCarry op l bit.val t) s
  | .bitFromC p bit => atBit p (fun l t => putBitOnly l bit.val (Psw.c t.psw) t) s
  | .blockSet v p => atBlockBit p (fun l k t => putBitZ l k v t) s
  | .blockTest p => atBlockBit p (fun l k t => do
      let b ← rdB l t
      return t.setPsw (Psw.setZ t.psw (!b.getLsbD k))) s
  | .blockCarry p => atBlockBit p (fun l k t => bitToCarry .move l k t) s
  | .blockFromC p => atBlockBit p (fun l k t => putBitOnly l k (Psw.c t.psw) t) s
  | .jumpBit want b bit d => retire s (do let (l, t) ← locBit b s; jumpOnBit want l bit.val d t)
  | .jumpFlip want p bit d => atBit p (fun l t => jumpOnBitFlip want l bit.val d t) s
  | .testW zero p d => testJumpW zero p d s
  | .testB zero p d => testJumpB zero p d s
  | .cond cc d => condJump cc d s

/-- An instruction with a shape is its shape's operation. -/
theorem exec_shape {i : Instr} {sh : Shape} (s : State) (h : shapeOf i = some sh) : exec i s = sh.run s := by
  cases i <;> first | (cases h; rfl) | (exact absurd h (by simp [shapeOf]))

end Sys2Proof.Machine
end

