-- ==== Sys2Proof/Tests/Slice0.lean ====
section
/-! SUPPORT. The model's own tests: ill-formed terms WellFormed refuses, one word of every opcode-table row written out from the
encoding column of the spec and decoded, one-step tests whose expected values are the hand calculations of
spec/95_test_vectors.md, and for every statement with hypotheses a concrete state and operands that meet them. -/

namespace Sys2Proof.Tests

open Sys2Proof Sys2Proof.Machine

set_option Elab.async false

/-! ## Helpers -/

/-- A device with a REGMASK, SFR addresses, three further SFRs, an exception to the word boundary and a MAC start bit. -/
def testDevice : Device :=
  { Device.default with
    regMask := some [⟨0x11, .push, .er true false true false⟩, ⟨0x12, .pop, .er true false true false⟩,
      ⟨0x21, .push, .cr true true true⟩, ⟨0x22, .pop, .cr true true true⟩, ⟨0x33, .push, .pr true true true true⟩]
    sfrAcc := some 0x06, sfrTsr := some 0x08, sfrDsr := some 0x09, sfrRomwin := some 0x0B
    sfrMap := [(0x10, .readWrite), (0x12, .special), (0x13, .readWrite)], sfrOddWords := [0x13], macStart := some (0x10, 3) }

/-- A device that encodes ACAL to 1400H, 1500H, 1600H and 1700H as 55, 57, 54 and 56, and for which 48 names none. -/
def acalDevice : Device := { Device.default with acalHi := [(0x55, 0), (0x48, 1), (0x57, 1), (0x54, 2), (0x56, 3)] }

/-- Bytes of data memory put in place. -/
def put (s : State) (cells : List (Nat × Byte)) : State := cells.foldl (fun t c => t.putCell c.1 c.2) s

/-- A state under the small model with A, PSW (and DD_FETCH from it), bytes of data memory and the code at 0:0100H. LRB is
0310H, so R0 stands at 0280H, and off is 0300H + off8. -/
def st (a psw : Word) (cells : List (Nat × Byte)) (code : List Byte) : State :=
  loadCode (put { State.reset with a := a, psw := psw, pc := 0x100, lrb := 0x310, ddFetch := Psw.dd psw } cells) 0 0x100 code

/-- The state after one step, if there is one. -/
noncomputable def after (s : State) : Option State :=
  match step s with
  | .next t => some t
  | .fault _ | .refused _ => none

/-- The word of data memory at an address. -/
def wordAt (s : State) (a : Nat) : Option Word := (s.cell a).bind fun l => (s.cell (a + 1)).map fun h => mkWord h l

/-- Bytes decode to an instruction of exactly their length. -/
abbrev Reads (dev : Device) (dd : Bool) (bytes : List Byte) (i : Instr) : Prop :=
  decode dev dd bytes = .ok (i, bytes.length)

/-- Whether an outcome is a next state. -/
def isNext (o : Host.Outcome State Fault Refusal) : Bool :=
  match o with
  | .next _ => true
  | .fault _ | .refused _ => false

theorem next_of {o : Host.Outcome State Fault Refusal} (h : isNext o = true) : ∃ t, o = .next t := by
  cases o with
  | next t => exact ⟨t, rfl⟩
  | fault f => simp [isNext] at h
  | refused f => simp [isNext] at h

theorem next_with {o : Host.Outcome State Fault Refusal} {f : State → Bool}
    (h : (match o with | .next t => f t | _ => false) = true) : ∃ t, o = .next t ∧ f t = true := by
  cases o with
  | next t => exact ⟨t, rfl, h⟩
  | fault f => cases h
  | refused f => cases h

theorem ok_of {α : Type} {r : Res α} (h : r.toBool = true) : ∃ x, r = .ok x := by
  cases r with
  | ok x => exact ⟨x, rfl⟩
  | error e => exact absurd h (by simp [Except.toBool])

/-! ## Ill-formed terms are refused -/

theorem test_wf_accumulator_word_operand : WellFormed Device.default (.incW .acc) = false := by decide
theorem test_wf_accumulator_byte_operand : WellFormed Device.default (.incbB .acc) = false := by decide
theorem test_wf_empty_list : WellFormed testDevice (.pushs (.er false false false false)) = false := by decide
theorem test_wf_list_not_in_regmask : WellFormed testDevice (.pops (.pr true true true true)) = false := by decide
theorem test_wf_no_regmask : WellFormed Device.default (.pushs (.cr true true true)) = false := by decide
theorem test_wf_acal_high : WellFormed Device.default (.acal 4 0) = false ∧ WellFormed acalDevice (.acal 4 0) = true := by decide
theorem test_wf_mac_other_bit : WellFormed testDevice (.mac 0x10 2) = false ∧ WellFormed testDevice (.mac 0x10 3) = true := by
  decide
theorem test_wf_unassigned : WellFormed acalDevice (.unassigned 0) = false ∧
    WellFormed Device.default (.unassigned 0) = true := by decide
theorem test_wf_listed_after_BC : WellFormed Device.default (.pfxWA 0xA9) = false := by decide
theorem test_wf_listed_after_PR : WellFormed Device.default (.pfxWPr .x1 0xFA) = false ∧
    WellFormed Device.default (.pfxWPr .dp 0xFA) = true := by decide
theorem test_wf_listed_after_word : WellFormed Device.default (.pfxWX1 0x97) = false := by decide
theorem test_wf_listed_after_byte : WellFormed Device.default (.pfxBX1 0x00) = false := by decide
theorem test_wf_listed_after_PSWL : WellFormed Device.default (.pfxBPswl 0xFF) = false ∧
    WellFormed Device.default (.pfxBPswh 0xFF) = true := by decide

/-! ## One word of every row decodes -/

theorem test_decode_data_move_1 :
    Reads Device.default true [0xF8, 0x5D, 0xA5] (.lAImm 0xA55D) ∧
    Reads Device.default false [0x75] (.lAEr .er1) ∧
    Reads Device.default true [0x70] (.lAPr .x1) ∧
    Reads Device.default false [0x80] (.lAX1) ∧
    Reads Device.default true [0x90] (.lbAX1) ∧
    Reads Device.default false [0x81] (.lADpDec) ∧
    Reads Device.default true [0x91] (.lbADpDec) ∧
    Reads Device.default false [0x82] (.lADp) ∧
    Reads Device.default true [0x92] (.lbADp) ∧
    Reads Device.default false [0x83] (.lADpInc) ∧
    Reads Device.default true [0x93] (.lbADpInc) ∧
    Reads Device.default false [0x84, 0x5C] (.lAFix 0x5C) ∧
    Reads Device.default true [0x94, 0x79] (.lbAFix 0x79) ∧
    Reads Device.default false [0x85, 0x96] (.lAOff 0x96) := by
  decide +kernel

theorem test_decode_data_move_2 :
    Reads Device.default true [0x95, 0xB3] (.lbAOff 0xB3) ∧
    Reads Device.default false [0x86, 0xD0] (.lASfr 0xD0) ∧
    Reads Device.default true [0x96, 0xED] (.lbASfr 0xED) ∧
    Reads Device.default false [0x87, 0x6E, 0xA5] (.lADir 0xA56E) ∧
    Reads Device.default true [0x97, 0x6F, 0xA5] (.lbADir 0xA56F) ∧
    Reads Device.default false [0x88, 0x70, 0xA5] (.lAD16X1 0xA570) ∧
    Reads Device.default true [0x98, 0x71, 0xA5] (.lbAD16X1 0xA571) ∧
    Reads Device.default false [0x89, 0x42] (.lAN7 .usp 0x42) ∧
    Reads Device.default true [0x99, 0xC5] (.lbAN7 .dp 0x45) ∧
    Reads Device.default true [0xF9, 0x98] (.lbAImm 0x98) ∧
    Reads Device.default false [0x7A] (.lbAR .r2) ∧
    Reads Device.default true [0x39] (.stAEr .er1) ∧
    Reads Device.default true [0x3C] (.stAPr .x1) ∧
    Reads Device.default false [0x3F] (.stbAR .r7) := by
  decide +kernel

theorem test_decode_data_move_3 :
    Reads Device.default true [0x30] (.stAX1) ∧
    Reads Device.default false [0x30] (.stbAX1) ∧
    Reads Device.default true [0x31] (.stADpDec) ∧
    Reads Device.default false [0x31] (.stbADpDec) ∧
    Reads Device.default true [0x32] (.stADp) ∧
    Reads Device.default false [0x32] (.stbADp) ∧
    Reads Device.default true [0x33] (.stADpInc) ∧
    Reads Device.default false [0x33] (.stbADpInc) ∧
    Reads Device.default true [0x34, 0x31] (.stAFix 0x31) ∧
    Reads Device.default false [0x34, 0x4E] (.stbAFix 0x4E) ∧
    Reads Device.default true [0x35, 0x6B] (.stAOff 0x6B) ∧
    Reads Device.default false [0x35, 0x88] (.stbAOff 0x88) ∧
    Reads Device.default true [0x36, 0xA5] (.stASfr 0xA5) ∧
    Reads Device.default false [0x36, 0xC2] (.stbASfr 0xC2) := by
  decide +kernel

theorem test_decode_data_move_4 :
    Reads Device.default true [0x37, 0x87, 0xA5] (.stADir 0xA587) ∧
    Reads Device.default false [0x37, 0x88, 0xA5] (.stbADir 0xA588) ∧
    Reads Device.default true [0xC8, 0x89, 0xA5] (.stAD16X1 0xA589) ∧
    Reads Device.default false [0xC8, 0x8A, 0xA5] (.stbAD16X1 0xA58A) ∧
    Reads Device.default true [0xC9, 0x8D] (.stAN7 .dp 0x0D) ∧
    Reads Device.default false [0xC9, 0x10] (.stbAN7 .usp 0x10) ∧
    Reads Device.default true [0xBC, 0x99, 0x8D, 0xA5] (.stAD16X2 0xA58D) ∧
    Reads Device.default false [0xBC, 0x99, 0x8E, 0xA5] (.stbAD16X2 0xA58E) ∧
    Reads Device.default false [0x20, 0x8F, 0xA5] (.movPrImm .x1 0xA58F) ∧
    Reads Device.default false [0x27, 0x90, 0xA5] (.movErImm .er3 0xA590) ∧
    Reads Device.default true [0xC6, 0x01, 0x91, 0xA5] (.movSfrImm 0x01 0xA591) ∧
    Reads Device.default true [0xC7, 0x1E, 0x92, 0xA5] (.movOffImm 0x1E 0xA592) ∧
    Reads Device.default true [0x14, 0xB7] (.movbRImm .r4 0xB7) ∧
    Reads Device.default false [0xD6, 0x58, 0xB8] (.movbSfrImm 0x58 0xB8) := by
  decide +kernel

theorem test_decode_data_move_5 :
    Reads Device.default false [0xD7, 0x75, 0xB9] (.movbOffImm 0x75 0xB9) ∧
    Reads Device.default false [0xFA] (.clrA) ∧
    Reads Device.default false [0xFB] (.clrbA) ∧
    Reads Device.default false [0xDF] (.swap) ∧
    Reads Device.default false [0x64, 0x97] (.movAW (.er .er0)) ∧
    Reads Device.default true [0x62, 0x71] (.movErW .er1 (.pr .dp)) ∧
    Reads Device.default true [0x67, 0x74] (.movPrW .x1 (.er .er3)) ∧
    Reads Device.default false [0x60, 0x86, 0x40] (.movFixW 0x40 (.pr .x1)) ∧
    Reads Device.default false [0xA0, 0x87, 0x5D] (.movOffW 0x5D (.mem .x1)) ∧
    Reads Device.default false [0xA1, 0x88] (.movX1W (.mem .dpDec)) ∧
    Reads Device.default false [0xA2, 0x89] (.movDpDecW (.mem .dp)) ∧
    Reads Device.default false [0xA3, 0x8A] (.movDpW (.mem .dpInc)) ∧
    Reads Device.default false [0xA4, 0x41, 0x8B] (.movDpIncW (.mem (.fix 0x41))) ∧
    Reads Device.default false [0xA5, 0x42, 0x96, 0xEE] (.movSfrW 0xEE (.mem (.off 0x42))) := by
  decide +kernel

theorem test_decode_data_move_6 :
    Reads Device.default false [0xA6, 0x43, 0x98, 0xA3, 0xA5] (.movD16X1W 0xA5A3 (.mem (.sfr 0x43))) ∧
    Reads Device.default false [0xA7, 0x34, 0x12, 0x99, 0xA4, 0xA5] (.movD16X2W 0xA5A4 (.mem (.dir 0x1234))) ∧
    Reads Device.default false [0xA8, 0xFE, 0xFF, 0x9A, 0xDB] (.movN7W .usp 0x5B (.mem (.d16x1 0xFFFE))) ∧
    Reads Device.default false [0xA9, 0x01, 0x80, 0x9B, 0xA6, 0xA5] (.movDirW 0xA5A6 (.mem (.d16x2 0x8001))) ∧
    Reads Device.default false [0xAA, 0xF8] (.movX1AW (.mem .x1A)) ∧
    Reads Device.default false [0xAB, 0xF9] (.movX1R0W (.mem .x1R0)) ∧
    Reads Device.default true [0x8B, 0x74, 0xAA] (.movWA (.mem (.n7dp 0x74))) ∧
    Reads Device.default false [0x8B, 0xF4, 0xAB, 0xAA, 0xA5] (.movWImm (.mem (.n7usp 0x74)) 0xA5AA) ∧
    Reads Device.default true [0x68, 0x97] (.movbAB (.r .r0)) ∧
    Reads Device.default false [0x6F, 0x73] (.movbRB .r3 (.r .r7)) ∧
    Reads Device.default true [0x8A, 0x86, 0x2D] (.movbFixB 0x2D .pswl) ∧
    Reads Device.default true [0x9A, 0x87, 0x4A] (.movbOffB 0x4A .pswh) ∧
    Reads Device.default true [0xB0, 0x88] (.movbX1B (.mem .x1)) ∧
    Reads Device.default true [0xB1, 0x89] (.movbDpDecB (.mem .dpDec)) := by
  decide +kernel

theorem test_decode_data_move_7 :
    Reads Device.default true [0xB2, 0x8A] (.movbDpB (.mem .dp)) ∧
    Reads Device.default true [0xB3, 0x8B] (.movbDpIncB (.mem .dpInc)) ∧
    Reads Device.default true [0xB4, 0x41, 0x96, 0xDB] (.movbSfrB 0xDB (.mem (.fix 0x41))) ∧
    Reads Device.default true [0xB5, 0x42, 0x98, 0xB4, 0xA5] (.movbD16X1B 0xA5B4 (.mem (.off 0x42))) ∧
    Reads Device.default true [0xB6, 0x43, 0x99, 0xB5, 0xA5] (.movbD16X2B 0xA5B5 (.mem (.sfr 0x43))) ∧
    Reads Device.default true [0xB7, 0x34, 0x12, 0x9A, 0x0E] (.movbN7B .dp 0x0E (.mem (.dir 0x1234))) ∧
    Reads Device.default true [0xB8, 0xFE, 0xFF, 0x9B, 0xB7, 0xA5] (.movbDirB 0xA5B7 (.mem (.d16x1 0xFFFE))) ∧
    Reads Device.default true [0xB9, 0x01, 0x80, 0xF8] (.movbX1AB (.mem (.d16x2 0x8001))) ∧
    Reads Device.default true [0xBA, 0xF9] (.movbX1R0B (.mem .x1A)) ∧
    Reads Device.default false [0xBB, 0xAA] (.movbBA (.mem .x1R0)) ∧
    Reads Device.default true [0x9B, 0x74, 0xAB, 0xDF] (.movbBImm (.mem (.n7dp 0x74)) 0xDF) ∧
    Reads Device.default true [0x63, 0xC7] (.clrW (.pr .usp)) ∧
    Reads Device.default true [0x9B, 0xF4, 0xC7] (.clrbB (.mem (.n7usp 0x74))) ∧
    Reads Device.default true [0xBC, 0xD7] (.fillA) := by
  decide +kernel

theorem test_decode_data_move_8 :
    Reads Device.default false [0xBC, 0xD7] (.fillbA) ∧
    Reads Device.default true [0x61, 0xD7] (.fillW (.pr .x2)) ∧
    Reads Device.default true [0x6C, 0xD7] (.fillbB (.r .r4)) ∧
    Reads Device.default true [0x65, 0xC8] (.xchgAW (.er .er1)) ∧
    Reads Device.default false [0x68, 0xC8] (.xchgbAB (.r .r0)) := by
  decide +kernel

theorem test_decode_stack_1 :
    decode Device.default false [0x07, 0x07] = .ok (.pushsA, 1) ∧
    Reads testDevice true [0x06, 0x11] (.pushs (.er true false true false)) ∧
    Reads testDevice false [0x06, 0x12] (.pops (.er true false true false)) := by
  decide +kernel

theorem test_decode_shift_1 :
    Reads Device.default true [0x8F] (.sllA) ∧
    Reads Device.default false [0x8F] (.sllbA) ∧
    Reads Device.default true [0xBC, 0x8C] (.sllAWidth 0) ∧
    Reads Device.default false [0xBC, 0x8F] (.sllbAWidth 3) ∧
    Reads Device.default true [0x64, 0x8E] (.sllWWidth (.er .er0) 2) ∧
    Reads Device.default true [0x6F, 0x8D] (.sllbBWidth (.r .r7) 1) ∧
    Reads Device.default true [0x9F] (.srlA) ∧
    Reads Device.default false [0x9F] (.srlbA) ∧
    Reads Device.default true [0xBC, 0x9E] (.srlAWidth 2) ∧
    Reads Device.default false [0xBC, 0x9D] (.srlbAWidth 1) ∧
    Reads Device.default true [0x62, 0x9C] (.srlWWidth (.pr .dp) 0) ∧
    Reads Device.default true [0x8A, 0x9F] (.srlbBWidth .pswl 3) ∧
    Reads Device.default true [0xBC, 0xEE] (.sraAWidth 2) ∧
    Reads Device.default false [0xBC, 0xED] (.srabAWidth 1) := by
  decide +kernel

theorem test_decode_shift_2 :
    Reads Device.default true [0x67, 0xEC] (.sraWWidth (.er .er3) 0) ∧
    Reads Device.default true [0x9A, 0xEF] (.srabBWidth .pswh 3) ∧
    Reads Device.default true [0xAF] (.rolA) ∧
    Reads Device.default false [0xAF] (.rolbA) ∧
    Reads Device.default true [0xBC, 0xAC] (.rolAWidth 0) ∧
    Reads Device.default false [0xBC, 0xAF] (.rolbAWidth 3) ∧
    Reads Device.default true [0x60, 0xAE] (.rolWWidth (.pr .x1) 2) ∧
    Reads Device.default true [0xB0, 0xAD] (.rolbBWidth (.mem .x1) 1) ∧
    Reads Device.default true [0xBF] (.rorA) ∧
    Reads Device.default false [0xBF] (.rorbA) ∧
    Reads Device.default true [0xBC, 0xBE] (.rorAWidth 2) ∧
    Reads Device.default false [0xBC, 0xBD] (.rorbAWidth 1) ∧
    Reads Device.default true [0xA0, 0xBC] (.rorWWidth (.mem .x1) 0) ∧
    Reads Device.default true [0xB1, 0xBF] (.rorbBWidth (.mem .dpDec) 3) := by
  decide +kernel

theorem test_decode_inc_dec_1 :
    Reads Device.default true [0xCC] (.incA) ∧
    Reads Device.default false [0xCC] (.incbA) ∧
    Reads Device.default false [0x42] (.incPr .dp) ∧
    Reads Device.default true [0xC1] (.incbR 1) ∧
    Reads Device.default true [0xA1, 0xC6] (.incW (.mem .dpDec)) ∧
    Reads Device.default false [0xB2, 0xC6] (.incbB (.mem .dp)) ∧
    Reads Device.default true [0xDC] (.decA) ∧
    Reads Device.default false [0xDC] (.decbA) ∧
    Reads Device.default false [0x50] (.decPr .x1) ∧
    Reads Device.default true [0xD3] (.decbR 3) ∧
    Reads Device.default true [0xA2, 0xD6] (.decW (.mem .dp)) ∧
    Reads Device.default false [0xB3, 0xD6] (.decbB (.mem .dpInc)) := by
  decide +kernel

theorem test_decode_arithmetic_1 :
    Reads Device.default true [0x28] (.addAEr .er0) ∧
    Reads Device.default true [0x2F] (.addAPr .usp) ∧
    Reads Device.default false [0x2E] (.addbAR .r6) ∧
    Reads Device.default true [0xAC, 0xFE] (.addAFix 0xFE) ∧
    Reads Device.default false [0xAC, 0x1B] (.addbAFix 0x1B) ∧
    Reads Device.default true [0xAD, 0x38] (.addAOff 0x38) ∧
    Reads Device.default false [0xAD, 0x55] (.addbAOff 0x55) ∧
    Reads Device.default true [0xAE, 0xF6, 0xA5] (.addAImm 0xA5F6) ∧
    Reads Device.default false [0xAE, 0x9B] (.addbAImm 0x9B) ∧
    Reads Device.default true [0xA3, 0xA5] (.addAW (.mem .dpInc)) ∧
    Reads Device.default false [0xB4, 0x41, 0xA5] (.addbAB (.mem (.fix 0x41))) ∧
    Reads Device.default false [0xA4, 0x41, 0xA0, 0xE6] (.addWFix (.mem (.fix 0x41)) 0xE6) ∧
    Reads Device.default true [0xB5, 0x42, 0xA0, 0x03] (.addbBFix (.mem (.off 0x42)) 0x03) ∧
    Reads Device.default false [0xA5, 0x42, 0xA1, 0x20] (.addWOff (.mem (.off 0x42)) 0x20) := by
  decide +kernel

theorem test_decode_arithmetic_2 :
    Reads Device.default true [0xB6, 0x43, 0xA1, 0x3D] (.addbBOff (.mem (.sfr 0x43)) 0x3D) ∧
    Reads Device.default false [0xA6, 0x43, 0xA2, 0x5A] (.addWSfr (.mem (.sfr 0x43)) 0x5A) ∧
    Reads Device.default true [0xB7, 0x34, 0x12, 0xA2, 0x77] (.addbBSfr (.mem (.dir 0x1234)) 0x77) ∧
    Reads Device.default false [0xA7, 0x34, 0x12, 0xA3, 0x00, 0xA6] (.addWImm (.mem (.dir 0x1234)) 0xA600) ∧
    Reads Device.default true [0xB8, 0xFE, 0xFF, 0xA3, 0xA5] (.addbBImm (.mem (.d16x1 0xFFFE)) 0xA5) ∧
    Reads Device.default false [0xA8, 0xFE, 0xFF, 0xA4] (.addWA (.mem (.d16x1 0xFFFE))) ∧
    Reads Device.default true [0xB9, 0x01, 0x80, 0xA4] (.addbBA (.mem (.d16x2 0x8001))) ∧
    Reads Device.default true [0xBC, 0xF3, 0x04, 0xA6] (.adcAImm 0xA604) ∧
    Reads Device.default false [0xBC, 0xF3, 0xA9] (.adcbAImm 0xA9) ∧
    Reads Device.default true [0xA9, 0x01, 0x80, 0xF5] (.adcAW (.mem (.d16x2 0x8001))) ∧
    Reads Device.default false [0xBA, 0xF5] (.adcbAB (.mem .x1A)) ∧
    Reads Device.default false [0xAA, 0xF0, 0x7C] (.adcWFix (.mem .x1A) 0x7C) ∧
    Reads Device.default true [0xBB, 0xF0, 0x99] (.adcbBFix (.mem .x1R0) 0x99) ∧
    Reads Device.default false [0xAB, 0xF1, 0xB6] (.adcWOff (.mem .x1R0) 0xB6) := by
  decide +kernel

theorem test_decode_arithmetic_3 :
    Reads Device.default true [0x9B, 0x74, 0xF1, 0xD3] (.adcbBOff (.mem (.n7dp 0x74)) 0xD3) ∧
    Reads Device.default false [0x8B, 0x74, 0xF2, 0xF0] (.adcWSfr (.mem (.n7dp 0x74)) 0xF0) ∧
    Reads Device.default true [0x9B, 0xF4, 0xF2, 0x0D] (.adcbBSfr (.mem (.n7usp 0x74)) 0x0D) ∧
    Reads Device.default false [0x8B, 0xF4, 0xF3, 0x0E, 0xA6] (.adcWImm (.mem (.n7usp 0x74)) 0xA60E) ∧
    Reads Device.default true [0x6C, 0xF3, 0xB3] (.adcbBImm (.r .r4) 0xB3) ∧
    Reads Device.default false [0x63, 0xF4] (.adcWA (.pr .usp)) ∧
    Reads Device.default true [0x68, 0xF4] (.adcbBA (.r .r0)) ∧
    Reads Device.default true [0x09] (.subAEr .er1) ∧
    Reads Device.default true [0x0C] (.subAPr .x1) ∧
    Reads Device.default false [0x0B] (.subbAR .r3) ∧
    Reads Device.default true [0x8C, 0xF5] (.subAFix 0xF5) ∧
    Reads Device.default false [0x8C, 0x12] (.subbAFix 0x12) ∧
    Reads Device.default true [0x8D, 0x2F] (.subAOff 0x2F) ∧
    Reads Device.default false [0x8D, 0x4C] (.subbAOff 0x4C) := by
  decide +kernel

theorem test_decode_arithmetic_4 :
    Reads Device.default true [0x8E, 0x19, 0xA6] (.subAImm 0xA619) ∧
    Reads Device.default false [0x8E, 0xBE] (.subbAImm 0xBE) ∧
    Reads Device.default true [0x61, 0x85] (.subAW (.pr .x2)) ∧
    Reads Device.default false [0x6F, 0x85] (.subbAB (.r .r7)) ∧
    Reads Device.default false [0x65, 0x80, 0xDD] (.subWFix (.er .er1) 0xDD) ∧
    Reads Device.default true [0x8A, 0x80, 0xFA] (.subbBFix .pswl 0xFA) ∧
    Reads Device.default false [0x64, 0x81, 0x17] (.subWOff (.er .er0) 0x17) ∧
    Reads Device.default true [0x9A, 0x81, 0x34] (.subbBOff .pswh 0x34) ∧
    Reads Device.default false [0x62, 0x82, 0x51] (.subWSfr (.pr .dp) 0x51) ∧
    Reads Device.default true [0xB0, 0x82, 0x6E] (.subbBSfr (.mem .x1) 0x6E) ∧
    Reads Device.default false [0x67, 0x83, 0x23, 0xA6] (.subWImm (.er .er3) 0xA623) ∧
    Reads Device.default true [0xB1, 0x83, 0xC8] (.subbBImm (.mem .dpDec) 0xC8) ∧
    Reads Device.default false [0x60, 0x84] (.subWA (.pr .x1)) ∧
    Reads Device.default true [0xB2, 0x84] (.subbBA (.mem .dp)) := by
  decide +kernel

theorem test_decode_arithmetic_5 :
    Reads Device.default true [0xBC, 0xE3, 0x27, 0xA6] (.sbcAImm 0xA627) ∧
    Reads Device.default false [0xBC, 0xE3, 0xCC] (.sbcbAImm 0xCC) ∧
    Reads Device.default true [0xA0, 0xE5] (.sbcAW (.mem .x1)) ∧
    Reads Device.default false [0xB3, 0xE5] (.sbcbAB (.mem .dpInc)) ∧
    Reads Device.default false [0xA1, 0xE0, 0x73] (.sbcWFix (.mem .dpDec) 0x73) ∧
    Reads Device.default true [0xB4, 0x41, 0xE0, 0x90] (.sbcbBFix (.mem (.fix 0x41)) 0x90) ∧
    Reads Device.default false [0xA2, 0xE1, 0xAD] (.sbcWOff (.mem .dp) 0xAD) ∧
    Reads Device.default true [0xB5, 0x42, 0xE1, 0xCA] (.sbcbBOff (.mem (.off 0x42)) 0xCA) ∧
    Reads Device.default false [0xA3, 0xE2, 0xE7] (.sbcWSfr (.mem .dpInc) 0xE7) ∧
    Reads Device.default true [0xB6, 0x43, 0xE2, 0x04] (.sbcbBSfr (.mem (.sfr 0x43)) 0x04) ∧
    Reads Device.default false [0xA4, 0x41, 0xE3, 0x31, 0xA6] (.sbcWImm (.mem (.fix 0x41)) 0xA631) ∧
    Reads Device.default true [0xB7, 0x34, 0x12, 0xE3, 0xD6] (.sbcbBImm (.mem (.dir 0x1234)) 0xD6) ∧
    Reads Device.default false [0xA5, 0x42, 0xE4] (.sbcWA (.mem (.off 0x42))) ∧
    Reads Device.default true [0xB8, 0xFE, 0xFF, 0xE4] (.sbcbBA (.mem (.d16x1 0xFFFE))) := by
  decide +kernel

theorem test_decode_arithmetic_6 :
    Reads Device.default true [0x1A] (.cmpAEr .er2) ∧
    Reads Device.default true [0x1D] (.cmpAPr .x2) ∧
    Reads Device.default false [0x18] (.cmpbAR .r0) ∧
    Reads Device.default true [0x9C, 0xEC] (.cmpAFix 0xEC) ∧
    Reads Device.default false [0x9C, 0x09] (.cmpbAFix 0x09) ∧
    Reads Device.default true [0x9D, 0x26] (.cmpAOff 0x26) ∧
    Reads Device.default false [0x9D, 0x43] (.cmpbAOff 0x43) ∧
    Reads Device.default true [0x9E, 0x3C, 0xA6] (.cmpAImm 0xA63C) ∧
    Reads Device.default false [0x9E, 0xE1] (.cmpbAImm 0xE1) ∧
    Reads Device.default true [0xA6, 0x43, 0x95] (.cmpAW (.mem (.sfr 0x43))) ∧
    Reads Device.default false [0xB9, 0x01, 0x80, 0x95] (.cmpbAB (.mem (.d16x2 0x8001))) ∧
    Reads Device.default false [0xA7, 0x34, 0x12, 0x90, 0xD4] (.cmpWFix (.mem (.dir 0x1234)) 0xD4) ∧
    Reads Device.default false [0xBA, 0x90, 0xF1] (.cmpbBFix (.mem .x1A) 0xF1) ∧
    Reads Device.default false [0xA8, 0xFE, 0xFF, 0x91, 0x0E] (.cmpWOff (.mem (.d16x1 0xFFFE)) 0x0E) := by
  decide +kernel

theorem test_decode_arithmetic_7 :
    Reads Device.default false [0xBB, 0x91, 0x2B] (.cmpbBOff (.mem .x1R0) 0x2B) ∧
    Reads Device.default false [0xA9, 0x01, 0x80, 0x92, 0x48] (.cmpWSfr (.mem (.d16x2 0x8001)) 0x48) ∧
    Reads Device.default false [0x9B, 0x74, 0x92, 0x65] (.cmpbBSfr (.mem (.n7dp 0x74)) 0x65) ∧
    Reads Device.default false [0xAA, 0x93, 0x46, 0xA6] (.cmpWImm (.mem .x1A) 0xA646) ∧
    Reads Device.default false [0x9B, 0xF4, 0x93, 0xEB] (.cmpbBImm (.mem (.n7usp 0x74)) 0xEB) ∧
    Reads Device.default false [0xAB, 0x94] (.cmpWA (.mem .x1R0)) ∧
    Reads Device.default false [0x6C, 0x94] (.cmpbBA (.r .r4)) ∧
    Reads Device.default true [0xC4, 0xF6, 0x4A, 0xA6] (.cmpFixImm 0xF6 0xA64A) ∧
    Reads Device.default true [0xC5, 0x13, 0x4B, 0xA6] (.cmpOffImm 0x13 0xA64B) ∧
    Reads Device.default true [0xD4, 0x30, 0xF0] (.cmpbFixImm 0x30 0xF0) ∧
    Reads Device.default true [0xD5, 0x4D, 0xF1] (.cmpbOffImm 0x4D 0xF1) ∧
    Reads Device.default true [0xCF] (.negA) ∧
    Reads Device.default false [0xCF] (.negbA) ∧
    Reads Device.default false [0x8B, 0x74, 0xA9] (.mulW (.mem (.n7dp 0x74))) := by
  decide +kernel

theorem test_decode_arithmetic_8 :
    Reads Device.default true [0x68, 0xA9] (.mulbB (.r .r0)) ∧
    Reads Device.default true [0xBC, 0xA9] (.sqrA) ∧
    Reads Device.default false [0xBC, 0xA9] (.sqrbA) ∧
    Reads Device.default false [0x8B, 0xF4, 0xA8] (.divW (.mem (.n7usp 0x74))) ∧
    Reads Device.default true [0x6F, 0xA8] (.divbB (.r .r7)) ∧
    Reads Device.default false [0x63, 0xFB] (.divqW (.pr .usp)) := by
  decide +kernel

theorem test_decode_logical_1 :
    Reads Device.default true [0xBD, 0x6F] (.andAOff 0x6F) ∧
    Reads Device.default false [0xBD, 0x8C] (.andbAOff 0x8C) ∧
    Reads Device.default true [0xBE, 0x59, 0xA6] (.andAImm 0xA659) ∧
    Reads Device.default false [0xBE, 0xFE] (.andbAImm 0xFE) ∧
    Reads Device.default true [0x61, 0xB5] (.andAW (.pr .x2)) ∧
    Reads Device.default false [0x8A, 0xB5] (.andbAB .pswl) ∧
    Reads Device.default true [0x65, 0xB0, 0x1D] (.andWFix (.er .er1) 0x1D) ∧
    Reads Device.default false [0x9A, 0xB0, 0x3A] (.andbBFix .pswh 0x3A) ∧
    Reads Device.default true [0x64, 0xB1, 0x57] (.andWOff (.er .er0) 0x57) ∧
    Reads Device.default false [0xB0, 0xB1, 0x74] (.andbBOff (.mem .x1) 0x74) ∧
    Reads Device.default true [0x62, 0xB2, 0x91] (.andWSfr (.pr .dp) 0x91) ∧
    Reads Device.default false [0xB1, 0xB2, 0xAE] (.andbBSfr (.mem .dpDec) 0xAE) ∧
    Reads Device.default true [0x67, 0xB3, 0x63, 0xA6] (.andWImm (.er .er3) 0xA663) ∧
    Reads Device.default false [0xB2, 0xB3, 0x88] (.andbBImm (.mem .dp) 0x88) := by
  decide +kernel

theorem test_decode_logical_2 :
    Reads Device.default true [0x60, 0xB4] (.andWA (.pr .x1)) ∧
    Reads Device.default false [0xB3, 0xB4] (.andbBA (.mem .dpInc)) ∧
    Reads Device.default true [0xCD, 0x3F] (.orAOff 0x3F) ∧
    Reads Device.default false [0xCD, 0x5C] (.orbAOff 0x5C) ∧
    Reads Device.default true [0xCE, 0x69, 0xA6] (.orAImm 0xA669) ∧
    Reads Device.default false [0xCE, 0x8E] (.orbAImm 0x8E) ∧
    Reads Device.default true [0xA0, 0xC5] (.orAW (.mem .x1)) ∧
    Reads Device.default false [0xB4, 0x41, 0xC5] (.orbAB (.mem (.fix 0x41))) ∧
    Reads Device.default true [0xA1, 0xC0, 0xED] (.orWFix (.mem .dpDec) 0xED) ∧
    Reads Device.default false [0xB5, 0x42, 0xC0, 0x0A] (.orbBFix (.mem (.off 0x42)) 0x0A) ∧
    Reads Device.default true [0xA2, 0xC1, 0x27] (.orWOff (.mem .dp) 0x27) ∧
    Reads Device.default false [0xB6, 0x43, 0xC1, 0x44] (.orbBOff (.mem (.sfr 0x43)) 0x44) ∧
    Reads Device.default true [0xA3, 0xC2, 0x61] (.orWSfr (.mem .dpInc) 0x61) ∧
    Reads Device.default false [0xB7, 0x34, 0x12, 0xC2, 0x7E] (.orbBSfr (.mem (.dir 0x1234)) 0x7E) := by
  decide +kernel

theorem test_decode_logical_3 :
    Reads Device.default true [0xA4, 0x41, 0xC3, 0x73, 0xA6] (.orWImm (.mem (.fix 0x41)) 0xA673) ∧
    Reads Device.default false [0xB8, 0xFE, 0xFF, 0xC3, 0x98] (.orbBImm (.mem (.d16x1 0xFFFE)) 0x98) ∧
    Reads Device.default true [0xA5, 0x42, 0xC4] (.orWA (.mem (.off 0x42))) ∧
    Reads Device.default false [0xB9, 0x01, 0x80, 0xC4] (.orbBA (.mem (.d16x2 0x8001))) ∧
    Reads Device.default true [0xDD, 0x0F] (.xorAOff 0x0F) ∧
    Reads Device.default false [0xDD, 0x2C] (.xorbAOff 0x2C) ∧
    Reads Device.default true [0xDE, 0x79, 0xA6] (.xorAImm 0xA679) ∧
    Reads Device.default false [0xDE, 0x9E] (.xorbAImm 0x9E) ∧
    Reads Device.default true [0xA6, 0x43, 0xD5] (.xorAW (.mem (.sfr 0x43))) ∧
    Reads Device.default false [0xBA, 0xD5] (.xorbAB (.mem .x1A)) ∧
    Reads Device.default true [0xA7, 0x34, 0x12, 0xD0, 0xBD] (.xorWFix (.mem (.dir 0x1234)) 0xBD) ∧
    Reads Device.default false [0xBB, 0xD0, 0xDA] (.xorbBFix (.mem .x1R0) 0xDA) ∧
    Reads Device.default true [0xA8, 0xFE, 0xFF, 0xD1, 0xF7] (.xorWOff (.mem (.d16x1 0xFFFE)) 0xF7) ∧
    Reads Device.default false [0x9B, 0x74, 0xD1, 0x14] (.xorbBOff (.mem (.n7dp 0x74)) 0x14) := by
  decide +kernel

theorem test_decode_logical_4 :
    Reads Device.default true [0xA9, 0x01, 0x80, 0xD2, 0x31] (.xorWSfr (.mem (.d16x2 0x8001)) 0x31) ∧
    Reads Device.default false [0x9B, 0xF4, 0xD2, 0x4E] (.xorbBSfr (.mem (.n7usp 0x74)) 0x4E) ∧
    Reads Device.default true [0xAA, 0xD3, 0x83, 0xA6] (.xorWImm (.mem .x1A) 0xA683) ∧
    Reads Device.default false [0x6C, 0xD3, 0xA8] (.xorbBImm (.r .r4) 0xA8) ∧
    Reads Device.default true [0xAB, 0xD4] (.xorWA (.mem .x1R0)) ∧
    Reads Device.default false [0x68, 0xD4] (.xorbBA (.r .r0)) ∧
    Reads Device.default true [0x8B, 0x74, 0xDA] (.lcAInd (.mem (.n7dp 0x74))) ∧
    Reads Device.default false [0x8B, 0xF4, 0xE7, 0x88, 0xA6] (.lcAT16 (.mem (.n7usp 0x74)) 0xA688) ∧
    Reads Device.default true [0x60, 0xB7, 0x89, 0xA6] (.lcATadr 0xA689) ∧
    Reads Device.default false [0x63, 0xDB] (.lcbAInd (.pr .usp)) ∧
    Reads Device.default true [0x61, 0xF7, 0x8B, 0xA6] (.lcbAT16 (.pr .x2) 0xA68B) ∧
    Reads Device.default false [0x8A, 0xB7, 0x8C, 0xA6] (.lcbATadr 0xA68C) ∧
    Reads Device.default true [0x65, 0xD8] (.cmpcAInd (.er .er1)) ∧
    Reads Device.default false [0x64, 0xE6, 0x8E, 0xA6] (.cmpcAT16 (.er .er0) 0xA68E) := by
  decide +kernel

theorem test_decode_logical_5 :
    Reads Device.default true [0x60, 0xB6, 0x8F, 0xA6] (.cmpcATadr 0xA68F) ∧
    Reads Device.default false [0x62, 0xD9] (.cmpcbAInd (.pr .dp)) ∧
    Reads Device.default true [0x67, 0xF6, 0x91, 0xA6] (.cmpcbAT16 (.er .er3) 0xA691) ∧
    Reads Device.default false [0x8A, 0xB6, 0x92, 0xA6] (.cmpcbATadr 0xA692) := by
  decide +kernel

theorem test_decode_rom_table_1 :
    Reads Device.default true [0x6F, 0x04] (.rbBit (.r .r7) 4) ∧
    Reads Device.default true [0x8A, 0x09] (.sbBit .pswl 1) ∧
    Reads Device.default true [0x9A, 0x16] (.mbCBit .pswh 6) ∧
    Reads Device.default false [0xB0, 0x1B] (.mbBitC (.mem .x1) 3) ∧
    Reads Device.default true [0xB1, 0x40] (.bandCBit (.mem .dpDec) 0) ∧
    Reads Device.default false [0xB2, 0x4D] (.bandnCBit (.mem .dp) 5) ∧
    Reads Device.default true [0xB3, 0x52] (.borCBit (.mem .dpInc) 2) ∧
    Reads Device.default false [0x59, 0x3E] (.sbSbafix 1 0x3E) ∧
    Reads Device.default false [0x5E, 0x65] (.rbSbafix 6 0x25) ∧
    Reads Device.default false [0x4B, 0x3E] (.sbSbaoff 3 0x3E) ∧
    Reads Device.default false [0x48, 0x65] (.rbSbaoff 0 0x25) := by
  decide +kernel

theorem test_decode_bit_1 :
    Reads Device.default false [0xB4, 0x41, 0x5F] (.bornCBit (.mem (.fix 0x41)) 7) ∧
    Reads Device.default true [0xB5, 0x42, 0x64] (.bxorCBit (.mem (.off 0x42)) 4) ∧
    Reads Device.default true [0xB6, 0x43, 0xB8] (.sbrB (.mem (.sfr 0x43))) ∧
    Reads Device.default false [0xB7, 0x34, 0x12, 0xB9] (.rbrB (.mem (.dir 0x1234))) ∧
    Reads Device.default true [0xB8, 0xFE, 0xFF, 0xCA] (.tbrB (.mem (.d16x1 0xFFFE))) ∧
    Reads Device.default false [0xB9, 0x01, 0x80, 0xBA] (.mbrCB (.mem (.d16x2 0x8001))) ∧
    Reads Device.default true [0xBA, 0xBB] (.mbrBC (.mem .x1A)) ∧
    Reads Device.default true [0xBB, 0x2E, 0x57] (.jbsBit (.mem .x1R0) 6 0x57) ∧
    Reads Device.default false [0x5B, 0xA5, 0x76] (.jbsSbafix 3 0x25 0x76) ∧
    Reads Device.default false [0x48, 0xA5, 0x95] (.jbsSbaoff 0 0x25 0x95) ∧
    Reads Device.default true [0x9B, 0x74, 0x25, 0xB4] (.jbrBit (.mem (.n7dp 0x74)) 5 0xB4) ∧
    Reads Device.default false [0x5A, 0xE5, 0xD3] (.jbrSbafix 2 0x25 0xD3) ∧
    Reads Device.default false [0x4F, 0xE5, 0xF2] (.jbrSbaoff 7 0x25 0xF2) ∧
    Reads Device.default true [0x9B, 0xF4, 0x3C, 0x11] (.jbsrBit (.mem (.n7usp 0x74)) 4 0x11) := by
  decide +kernel

theorem test_decode_bit_2 :
    Reads Device.default false [0x6C, 0x31, 0x30] (.jbrsBit (.r .r4) 1 0x30) ∧
    Reads Device.default true [0xBC, 0xA7, 0x4F] (.tjzA 0x4F) ∧
    Reads Device.default false [0x60, 0xA7, 0x6E] (.tjzW (.pr .x1) 0x6E) ∧
    Reads Device.default true [0xBC, 0xA6, 0x8D] (.tjnzA 0x8D) := by
  decide +kernel

theorem test_decode_jump_1 :
    Reads Device.default false [0xA0, 0xA6, 0xAC] (.tjnzW (.mem .x1) 0xAC) ∧
    Reads Device.default false [0xBC, 0xA7, 0xCB] (.tjzbA 0xCB) ∧
    Reads Device.default false [0x68, 0xA7, 0xEA] (.tjzbB (.r .r0) 0xEA) ∧
    Reads Device.default false [0xBC, 0xA6, 0x09] (.tjnzbA 0x09) ∧
    Reads Device.default false [0x6F, 0xA6, 0x28] (.tjnzbB (.r .r7) 0x28) ∧
    Reads Device.default false [0xF0, 0x47] (.jgt 0x47) ∧
    Reads Device.default true [0xF5, 0x66] (.jge 0x66) ∧
    Reads Device.default false [0xF2, 0x85] (.jlt 0x85) ∧
    Reads Device.default true [0xF7, 0xA4] (.jle 0xA4) ∧
    Reads Device.default false [0xF1, 0xC3] (.jeq 0xC3) ∧
    Reads Device.default true [0xF6, 0xE2] (.jne 0xE2) ∧
    Reads Device.default false [0xF4, 0x01] (.jps 0x01) ∧
    Reads Device.default true [0xF3, 0x20] (.jns 0x20) ∧
    Reads Device.default false [0x8A, 0xFE, 0x3F] (.jgts 0x3F) := by
  decide +kernel

theorem test_decode_jump_2 :
    Reads Device.default true [0x8A, 0xFF, 0x5E] (.jges 0x5E) ∧
    Reads Device.default false [0x8A, 0xFC, 0x7D] (.jlts 0x7D) ∧
    Reads Device.default true [0x8A, 0xFD, 0x9C] (.jles 0x9C) ∧
    Reads Device.default false [0x9A, 0x29, 0xBB] (.jbsBit .pswh 1 0xBB) ∧
    Reads Device.default true [0x9A, 0x21, 0xDA] (.jbrBit .pswh 1 0xDA) ∧
    Reads Device.default false [0x05, 0x71] (.djnzR4 0x71) ∧
    Reads Device.default false [0x05, 0xF1] (.djnzR5 0x71) ∧
    Reads Device.default true [0x62, 0xEA, 0x37] (.djnzPrL .dp 0x37) ∧
    Reads Device.default false [0x8A, 0xEA, 0x56] (.djnzB .pswl 0x56) ∧
    Reads Device.default true [0x62, 0xEA, 0x75] (.djnzPrL .dp 0x75) ∧
    Reads Device.default false [0x04, 0x94] (.sj 0x94) ∧
    Reads Device.default true [0x03, 0xC9, 0xA6] (.jCadr 0xA6C9) ∧
    Reads Device.default false [0xA1, 0xC9] (.jInd (.mem .dpDec)) ∧
    Reads Device.default true [0xFE, 0xCB, 0xA6] (.calCadr 0xA6CB) := by
  decide +kernel

theorem test_decode_jump_3 :
    Reads Device.default false [0xA2, 0xEB] (.calInd (.mem .dp)) ∧
    Reads Device.default true [0xFE, 0xCD, 0xA6] (.calCadr 0xA6CD) ∧
    Reads Device.default false [0x46, 0x9C] (.acal 2 0x9C) ∧
    Reads Device.default false [0xED] (.vcal 13) ∧
    Reads Device.default true [0x01] (.rt) ∧
    Reads Device.default false [0x07, 0x08, 0x34, 0x12, 0x05] (.fcal 0x05 0x1234) ∧
    Reads Device.default true [0x60, 0xFA, 0x34, 0x12, 0x05] (.fj 0x05 0x1234) ∧
    Reads Device.default false [0x07, 0x09] (.frt) ∧
    Reads Device.default true [0x02] (.rti) := by
  decide +kernel

theorem test_decode_other_1 :
    Reads Device.default true [0xCB] (.sc) ∧
    Reads Device.default false [0xCA] (.rc) ∧
    Reads Device.default true [0xFD] (.cplC) ∧
    Reads Device.default false [0xD9] (.sdd) ∧
    Reads Device.default true [0xD8] (.rdd) ∧
    Reads Device.default false [0xDB] (.ei) ∧
    Reads Device.default true [0xDA] (.di) ∧
    Reads Device.default false [0xFC] (.extnd) ∧
    Reads Device.default true [0x00] (.nop) ∧
    Reads Device.default false [0xFF] (.brk) ∧
    Reads Device.default true [0xB6, 0x43, 0x08] (.sbBit (.mem (.sfr 0x43)) 0) := by
  decide +kernel

theorem test_decode_prefixes_and_unlisted_1 :
    Reads Device.default false [0xBC, 0xCF] (.pfxWA 0xCF) ∧
    Reads Device.default false [0x62, 0xDC] (.pfxWPr .dp 0xDC) ∧
    Reads Device.default false [0x65, 0x6B] (.pfxWEr .er1 0x6B) ∧
    Reads Device.default true [0x6C, 0x7C] (.pfxBR .r4 0x7C) ∧
    Reads Device.default false [0xA0, 0xCD] (.pfxWX1 0xCD) ∧
    Reads Device.default true [0xB0, 0xDE] (.pfxBX1 0xDE) ∧
    Reads Device.default false [0xA1, 0xE8] (.pfxWDpDec 0xE8) ∧
    Reads Device.default true [0xB1, 0xE9] (.pfxBDpDec 0xE9) ∧
    Reads Device.default false [0xA2, 0x68] (.pfxWDp 0x68) ∧
    Reads Device.default true [0xB2, 0x7F] (.pfxBDp 0x7F) ∧
    Reads Device.default false [0xA3, 0xCF] (.pfxWDpInc 0xCF) ∧
    Reads Device.default true [0xB3, 0xDC] (.pfxBDpInc 0xDC) ∧
    Reads Device.default false [0xA4, 0x50, 0x6B] (.pfxWFix 0x50 0x6B) ∧
    Reads Device.default true [0xB4, 0x6D, 0x7C] (.pfxBFix 0x6D 0x7C) := by
  decide +kernel

theorem test_decode_prefixes_and_unlisted_2 :
    Reads Device.default false [0xA5, 0x8A, 0xCD] (.pfxWOff 0x8A 0xCD) ∧
    Reads Device.default true [0xB5, 0xA7, 0xDE] (.pfxBOff 0xA7 0xDE) ∧
    Reads Device.default false [0xA6, 0xC4, 0xE8] (.pfxWSfr 0xC4 0xE8) ∧
    Reads Device.default true [0xB6, 0xE1, 0xE9] (.pfxBSfr 0xE1 0xE9) ∧
    Reads Device.default false [0xA7, 0xF2, 0xA6, 0x68] (.pfxWDir 0xA6F2 0x68) ∧
    Reads Device.default true [0xB7, 0xF3, 0xA6, 0x7F] (.pfxBDir 0xA6F3 0x7F) ∧
    Reads Device.default false [0xA8, 0xF4, 0xA6, 0xCF] (.pfxWD16X1 0xA6F4 0xCF) ∧
    Reads Device.default true [0xB8, 0xF5, 0xA6, 0xDC] (.pfxBD16X1 0xA6F5 0xDC) ∧
    Reads Device.default false [0xA9, 0xF6, 0xA6, 0x6B] (.pfxWD16X2 0xA6F6 0x6B) ∧
    Reads Device.default true [0xB9, 0xF7, 0xA6, 0x7C] (.pfxBD16X2 0xA6F7 0x7C) ∧
    Reads Device.default false [0xAA, 0xCD] (.pfxWX1A 0xCD) ∧
    Reads Device.default true [0xBA, 0xDE] (.pfxBX1A 0xDE) ∧
    Reads Device.default false [0xAB, 0xE8] (.pfxWX1R0 0xE8) ∧
    Reads Device.default true [0xBB, 0xE9] (.pfxBX1R0 0xE9) := by
  decide +kernel

theorem test_decode_prefixes_and_unlisted_3 :
    Reads Device.default false [0x8B, 0x60, 0x68] (.pfxWN7 .dp 0x60 0x68) ∧
    Reads Device.default true [0x9B, 0xE3, 0x7F] (.pfxBN7 .usp 0x63 0x7F) ∧
    Reads Device.default true [0x8A, 0xCF] (.pfxBPswl 0xCF) ∧
    Reads Device.default true [0x9A, 0xDC] (.pfxBPswh 0xDC) ∧
    Reads Device.default true [0x56] (.unassigned 2) := by
  decide +kernel

theorem test_decode_accumulator_prefix :
    Reads Device.default true [0xBC, 0xDA] (.lcAInd .acc) ∧ Reads Device.default true [0xBC, 0xF7, 0x34, 0x12] (.lcbAT16 .acc 0x1234) ∧
    Reads Device.default true [0xBC, 0x0F] (.sbBit .acc 7) ∧ Reads Device.default true [0xBC, 0x58] (.bornCBit .acc 0) ∧
    Reads Device.default true [0xBC, 0x31, 0xFE] (.jbrsBit .acc 1 0xFE) ∧ Reads Device.default false [0xBC, 0xC9] (.jInd .acc) ∧
    Reads Device.default true [0xBC, 0xEB] (.calInd .acc) ∧ Reads Device.default false [0xBC, 0xEA, 0x10] (.djnzB .acc 0x10) ∧
    Reads Device.default true [0xBC, 0xA9] .sqrA ∧ Reads Device.default false [0xBC, 0xA9] .sqrbA ∧
    Reads Device.default true [0x07, 0x09] .frt := by
  decide +kernel

/-- ACAL_HI as the device gives it (R150); 48 stays the sbaoff code (D8). -/
theorem test_acal_high :
    Reads acalDevice false [0x55, 0x80] (.acal 4 0x80) ∧ Reads acalDevice true [0x54, 0x80] (.acal 6 0x80) ∧
    encode acalDevice (.acal 5 0x12) = [0x57, 0x12] ∧ Reads acalDevice false [0x48, 0x05] (.sbSbaoff 0 5) := by
  decide +kernel

/-- The counts of R417, R419, R421, R423. -/
theorem test_cycles_test_accumulator :
    cycles Device.default (.tjzA 0) = .two 7 11 ∧ cycles Device.default (.tjnzA 0) = .two 7 11 ∧
    cycles Device.default (.tjzbA 0) = .two 7 11 ∧ cycles Device.default (.tjnzbA 0) = .two 7 11 := by decide

theorem test_decode_refused :
    decode Device.default true [0x06, 0x11] = .error .regMaskNotGiven ∧ decode testDevice true [0x06, 0x99] = .error .invalidMask ∧
    decode Device.default true [0xF8, 0x34] = .error .truncated := by decide +kernel

theorem test_table_word : decodeTableWord 8 0xF8 = some (.lAImm 0) ∧
    after (State.reset.withFetchWord 8 0xCB) = some ((State.reset.withFetchWord 8 0xCB).setPc 1 |>.setPsw 0x8000) := by
  decide +kernel

/-! ## One step, with the values of spec/95_test_vectors.md -/

/-- spec/95_test_vectors.md B1.1. -/
theorem test_vector_b1_1 :
    (after (st 0xFFFF 0x0 [] [0xF8, 0x00, 0x00])).map (fun t => (t.a, t.psw)) =
    some (0x0, 0x5000) := by decide +kernel

/-- spec/95_test_vectors.md B1.6. -/
theorem test_vector_b1_6 :
    (after (st 0x0 0x0 [(0x204, 0xfe), (0x205, 0xff), (0xfffe, 0x0), (0xffff, 0x0)] [0x83])).map (fun t => (t.a, t.psw, wordAt t 0x204)) =
    some (0x0, 0x5000, some 0x0) := by decide +kernel

/-- spec/95_test_vectors.md B1.7. -/
theorem test_vector_b1_7 :
    (after (st 0x1200 0x0 [(0x204, 0x0), (0x205, 0x4), (0x400, 0xff)] [0x91])).map (fun t => (t.a, wordAt t 0x204)) =
    some (0x12FF, some 0x3FF) := by decide +kernel

/-- spec/95_test_vectors.md B1.8b. -/
theorem test_vector_b1_8b :
    (after (st 0x0 0x0 [(0x204, 0x0), (0x205, 0x9), (0x8f4, 0x11), (0x8f5, 0x22)] [0x89, 0xF4])).map (fun t => (t.a, t.psw)) =
    some (0x2211, 0x1000) := by decide +kernel

/-- spec/95_test_vectors.md B1.12. -/
theorem test_vector_b1_12 :
    (after (st 0xBEEF 0x0 [] [0x37, 0x00, 0x30])).map (fun t => (t.cell 0x3000, t.cell 0x3001)) =
    some (some 0xEF, none) := by decide +kernel

/-- spec/95_test_vectors.md B1.13. -/
theorem test_vector_b1_13 :
    (after (st 0xBEEF 0x1000 [] [0x37, 0x01, 0x30])).map (fun t => wordAt t 0x3000) =
    some (some 0xBEEF) := by decide +kernel

/-- spec/95_test_vectors.md B1.14. -/
theorem test_vector_b1_14 :
    (after (st 0x102 0x1000 [(0x204, 0x0), (0x205, 0x4)] [0x31])).map (fun t => (wordAt t 0x400, wordAt t 0x204)) =
    some (some 0x102, some 0x3FE) := by decide +kernel

/-- spec/95_test_vectors.md B1.21. -/
theorem test_vector_b1_21 :
    (after (st 0x12AB 0x1000 [] [0x3F])).map (fun t => wordAt t 0x206) =
    some (some 0x12AB) := by decide +kernel

/-- spec/95_test_vectors.md B1.23. -/
theorem test_vector_b1_23 :
    (after (st 0xA0B 0x1000 [(0x204, 0x0), (0x205, 0x9)] [0xC9, 0x84])).map (fun t => wordAt t 0x904) =
    some (some 0xA0B) := by decide +kernel

/-- spec/95_test_vectors.md B1.24. -/
theorem test_vector_b1_24 :
    (after (st 0x55 0x0 [(0x202, 0x0), (0x203, 0x40)] [0xBC, 0x99, 0xFF, 0xFF])).map (fun t => t.cell 0x3FFF) =
    some (some 0x55) := by decide +kernel

/-- spec/95_test_vectors.md B1.26. -/
theorem test_vector_b1_26 :
    (after (st 0x0 0x0 [(0x204, 0x0), (0x205, 0x4), (0x400, 0x0), (0x401, 0x50)] [0xA3, 0x76])).map (fun t => wordAt t 0x204) =
    some (some 0x5000) := by decide +kernel

/-- spec/95_test_vectors.md B1.28. -/
theorem test_vector_b1_28 :
    (after (st 0x0 0x0 [] [0xC6, 0x02, 0x20, 0x03])).map (fun t => t.lrb) =
    some (0x320) := by decide +kernel

/-- spec/95_test_vectors.md B1.32b. -/
theorem test_vector_b1_32b :
    (after (st 0x0 0x0 [(0x282, 0x77)] [0x6A, 0x71])).map (fun t => t.cell 0x281) =
    some (some 0x77) := by decide +kernel

/-- spec/95_test_vectors.md B1.34. -/
theorem test_vector_b1_34 :
    (after (st 0x7F80 0x0 [(0x200, 0x0), (0x201, 0x30), (0x3080, 0x99)] [0xBA, 0x97])).map (fun t => t.a) =
    some (0x7F99) := by decide +kernel

/-- spec/95_test_vectors.md B1.36. -/
theorem test_vector_b1_36 :
    (after (st 0x1111 0x1000 [(0x280, 0x22), (0x281, 0x22)] [0x64, 0xC8])).map (fun t => (t.a, wordAt t 0x280)) =
    some (0x2222, some 0x1111) := by decide +kernel

/-- spec/95_test_vectors.md B1.38. -/
theorem test_vector_b1_38 :
    (after (st 0x11AA 0x0 [(0x281, 0x55)] [0x69, 0xC8])).map (fun t => (t.a, t.cell 0x281)) =
    some (0x1155, some 0xAA) := by decide +kernel

/-- spec/95_test_vectors.md B1.39b. -/
theorem test_vector_b1_39b :
    (after (st 0x1234 0x1000 [] [0xFB])).map (fun t => (t.a, t.psw)) =
    some (0x1200, 0x4000) := by decide +kernel

/-- spec/95_test_vectors.md B1.40. -/
theorem test_vector_b1_40 :
    (after (st 0x0 0xFF07 [] [0x9A, 0xC7])).map (fun t => (t.psw, t.ddFetch)) =
    some (0x7, true) := by decide +kernel

/-- spec/95_test_vectors.md B1.41b. -/
theorem test_vector_b1_41b :
    (after (st 0x1200 0x0 [] [0xBC, 0xD7])).map (fun t => t.a) =
    some (0x12FF) := by decide +kernel

/-- spec/95_test_vectors.md B1.42. -/
theorem test_vector_b1_42 :
    (after (st 0x0 0xFFFF [] [0xC6, 0x04, 0x00, 0x00])).map (fun t => (t.psw, t.ddFetch)) =
    some (0x0, true) := by decide +kernel

/-- spec/95_test_vectors.md B1.45. -/
theorem test_vector_b1_45 :
    (after (st 0x12AB 0x0 [] [0xDF])).map (fun t => t.a) =
    some (0xAB12) := by decide +kernel

/-- spec/95_test_vectors.md B2.1. -/
theorem test_vector_b2_1 :
    (after (loadCode ({ st 0x1234 0x0 [] [] with ssp := 0xFFE } : State) 0 0x100 [0x07, 0x00])).map (fun t => (wordAt t 0xFFE, t.ssp, t.pc)) =
    some (some 0x1234, 0xFFC, 0x101) := by decide +kernel

/-- spec/95_test_vectors.md B3.3. -/
theorem test_vector_b3_3 :
    (after (st 0xFFF 0x9000 [] [0xBC, 0x8F])).map (fun t => (t.a, t.psw)) =
    some (0xFFF0, 0x1000) := by decide +kernel

/-- spec/95_test_vectors.md B3.5. -/
theorem test_vector_b3_5 :
    (after (st 0x0 0x0 [(0x280, 0x34), (0x281, 0x12)] [0x64, 0x8F])).map (fun t => (wordAt t 0x280, t.psw)) =
    some (some 0x2340, 0x8000) := by decide +kernel

/-- spec/95_test_vectors.md B3.11. -/
theorem test_vector_b3_11 :
    (after (st 0x0 0x0 [(0x282, 0x88)] [0x6A, 0xEF])).map (fun t => (t.cell 0x282, t.psw)) =
    some (some 0xF8, 0x8000) := by decide +kernel

/-- spec/95_test_vectors.md B3.12. -/
theorem test_vector_b3_12 :
    (after (st 0x0 0x0 [(0x282, 0xff), (0x283, 0x7f)] [0x65, 0xEC])).map (fun t => (wordAt t 0x282, t.psw)) =
    some (some 0x3FFF, 0x8000) := by decide +kernel

/-- spec/95_test_vectors.md B3.14. -/
theorem test_vector_b3_14 :
    (after (st 0x0 0x9000 [] [0xAF])).map (fun t => (t.a, t.psw)) =
    some (0x1, 0x1000) := by decide +kernel

/-- spec/95_test_vectors.md B3.16. -/
theorem test_vector_b3_16 :
    (after (st 0xAA81 0x0 [] [0xBC, 0xAF])).map (fun t => (t.a, t.psw)) =
    some (0xAA14, 0x0) := by decide +kernel

/-- spec/95_test_vectors.md B3.18. -/
theorem test_vector_b3_18 :
    (after (st 0x0 0x0 [(0x280, 0x3), (0x281, 0x0)] [0x64, 0xBD])).map (fun t => (wordAt t 0x280, t.psw)) =
    some (some 0x8000, 0x8000) := by decide +kernel

/-- spec/95_test_vectors.md B3.20. -/
theorem test_vector_b3_20 :
    (after (st 0xF 0x0 [] [0xBC, 0xBF])).map (fun t => (t.a, t.psw)) =
    some (0xE0, 0x8000) := by decide +kernel

/-- spec/95_test_vectors.md B4.1. -/
theorem test_vector_b4_1 :
    (after (st 0x7FFF 0x9000 [] [0xCC])).map (fun t => (t.a, t.psw)) =
    some (0x8000, 0xBA00) := by decide +kernel

/-- spec/95_test_vectors.md B4.4. -/
theorem test_vector_b4_4 :
    (after (st 0x1280 0x0 [] [0xDC])).map (fun t => (t.a, t.psw)) =
    some (0x127F, 0x2200) := by decide +kernel

/-- spec/95_test_vectors.md B4.7. -/
theorem test_vector_b4_7 :
    (after (st 0x0 0x0 [(0x280, 0xf)] [0xC0])).map (fun t => (t.cell 0x280, t.psw)) =
    some (some 0x10, 0x2000) := by decide +kernel

/-- spec/95_test_vectors.md B4.10. -/
theorem test_vector_b4_10 :
    (after (st 0x0 0x0 [(0x287, 0x0)] [0x6F, 0xD6])).map (fun t => (t.cell 0x287, t.psw)) =
    some (some 0xFF, 0x2800) := by decide +kernel

/-- spec/95_test_vectors.md B4.14. -/
theorem test_vector_b4_14 :
    (after (st 0x0 0x7F00 [] [0x9A, 0xC6])).map (fun t => (t.psw, t.ddFetch)) =
    some (0x8000, true) := by decide +kernel

/-- spec/95_test_vectors.md B5.1. -/
theorem test_vector_b5_1 :
    (after (st 0x7FFF 0x1000 [] [0xAE, 0x01, 0x00])).map (fun t => (t.a, t.psw)) =
    some (0x8000, 0x3A00) := by decide +kernel

/-- spec/95_test_vectors.md B5.5. -/
theorem test_vector_b5_5 :
    (after (st 0x1280 0x0 [(0x283, 0x80)] [0x2B])).map (fun t => (t.a, t.psw)) =
    some (0x1200, 0xC200) := by decide +kernel

/-- spec/95_test_vectors.md B5.9. -/
theorem test_vector_b5_9 :
    (after (st 0x1 0x1000 [(0x202, 0x0), (0x203, 0x1), (0x1334, 0xff), (0x1335, 0x0)] [0xA9, 0x34, 0x12, 0xA5])).map (fun t => (t.a, t.psw)) =
    some (0x100, 0x3000) := by decide +kernel

/-- spec/95_test_vectors.md B5.14. -/
theorem test_vector_b5_14 :
    (after (st 0x0 0x0 [(0x3000, 0x1), (0x3001, 0x80), (0x220, 0xff), (0x221, 0x7f)] [0xA7, 0x00, 0x30, 0xA0, 0x20])).map (fun t => (wordAt t 0x3000, t.psw)) =
    some (some 0x0, 0xE000) := by decide +kernel

/-- spec/95_test_vectors.md B5.16. -/
theorem test_vector_b5_16 :
    (after (st 0x120F 0x8000 [] [0xBC, 0xF3, 0x00])).map (fun t => (t.a, t.psw)) =
    some (0x1210, 0x2000) := by decide +kernel

/-- spec/95_test_vectors.md B5.18. -/
theorem test_vector_b5_18 :
    (after (st 0x8000 0x9000 [(0x280, 0xff), (0x281, 0x7f)] [0x64, 0xF5])).map (fun t => (t.a, t.psw)) =
    some (0x0, 0xF000) := by decide +kernel

/-- spec/95_test_vectors.md B5.20. -/
theorem test_vector_b5_20 :
    (after (st 0x0 0x1000 [] [0x8E, 0x01, 0x00])).map (fun t => (t.a, t.psw)) =
    some (0xFFFF, 0xB800) := by decide +kernel

/-- spec/95_test_vectors.md B5.28. -/
theorem test_vector_b5_28 :
    (after (st 0x1 0x8000 [(0x280, 0x0), (0x281, 0x80)] [0x64, 0xE4])).map (fun t => (wordAt t 0x280, t.psw)) =
    some (some 0x7FFE, 0x2200) := by decide +kernel

/-- spec/95_test_vectors.md B5.31. -/
theorem test_vector_b5_31 :
    (after (st 0xF 0x1000 [] [0x9E, 0x0F, 0x00])).map (fun t => t.psw) =
    some (0x5000) := by decide +kernel

/-- spec/95_test_vectors.md B5.43. -/
theorem test_vector_b5_43 :
    (after (st 0x0 0x0 [(0x210, 0x0), (0x211, 0x80)] [0xC4, 0x10, 0x01, 0x00])).map (fun t => t.psw) =
    some (0x2200) := by decide +kernel

/-- spec/95_test_vectors.md B5.44. -/
theorem test_vector_b5_44 :
    (after (st 0x0 0x0 [(0x350, 0x20)] [0xD5, 0x50, 0x20])).map (fun t => t.psw) =
    some (0x4000) := by decide +kernel

/-- spec/95_test_vectors.md B5.50b. -/
theorem test_vector_b5_50b :
    (after (st 0x8000 0x1000 [] [0xCF])).map (fun t => (t.a, t.psw)) =
    some (0x8000, 0x9A00) := by decide +kernel

/-- spec/95_test_vectors.md B5.51b. -/
theorem test_vector_b5_51b :
    (after (st 0x1210 0x0 [] [0xCF])).map (fun t => (t.a, t.psw)) =
    some (0x12F0, 0x8800) := by decide +kernel

/-- spec/95_test_vectors.md B5.61. -/
theorem test_vector_b5_61 :
    (after (st 0xFFFF 0x0 [(0x284, 0xff), (0x285, 0xff)] [0x66, 0xA9])).map (fun t => (t.a, wordAt t 0x280)) =
    some (0xFFFE, some 0x1) := by decide +kernel

/-- spec/95_test_vectors.md B5.64. -/
theorem test_vector_b5_64 :
    (after (st 0x12FF 0x0 [(0x282, 0xff)] [0x6A, 0xA9])).map (fun t => t.a) =
    some (0xFE01) := by decide +kernel

/-- spec/95_test_vectors.md B5.66. -/
theorem test_vector_b5_66 :
    (after (st 0x5510 0x0 [] [0xBC, 0xA9])).map (fun t => t.a) =
    some (0x100) := by decide +kernel

/-- spec/95_test_vectors.md B5.70. -/
theorem test_vector_b5_70 :
    (after (st 0x1 0x0 [(0x280, 0x0), (0x281, 0x0), (0x284, 0x3), (0x285, 0x0)] [0x66, 0xA8])).map (fun t => (t.a, wordAt t 0x280, wordAt t 0x282)) =
    some (0x0, some 0x5555, some 0x1) := by decide +kernel

/-- spec/95_test_vectors.md B5.73. -/
theorem test_vector_b5_73 :
    (after (st 0x103 0x0 [(0x282, 0x10)] [0x6A, 0xA8])).map (fun t => (t.a, t.cell 0x281)) =
    some (0x10, some 0x3) := by decide +kernel

/-- spec/95_test_vectors.md B5.74. -/
theorem test_vector_b5_74 :
    (after (st 0x0 0x0 [(0x280, 0x64), (0x281, 0x0), (0x286, 0x7), (0x287, 0x0)] [0x67, 0xFB])).map (fun t => (t.a, wordAt t 0x282, wordAt t 0x280)) =
    some (0xE, some 0x2, some 0x64) := by decide +kernel

/-- spec/95_test_vectors.md B6.2. -/
theorem test_vector_b6_2 :
    (after (st 0x12F3 0x0 [] [0xBE, 0x0F])).map (fun t => t.a) =
    some (0x1203) := by decide +kernel

/-- spec/95_test_vectors.md B6.5. -/
theorem test_vector_b6_5 :
    (after (st 0x0 0xFF00 [] [0x9A, 0xB3, 0x05])).map (fun t => (t.psw, t.ddFetch)) =
    some (0x500, true) := by decide +kernel

/-- spec/95_test_vectors.md B6.9. -/
theorem test_vector_b6_9 :
    (after (st 0x80 0x0 [(0x280, 0x1)] [0x68, 0xC4])).map (fun t => (t.cell 0x280, t.psw)) =
    some (some 0x81, 0x800) := by decide +kernel

/-- spec/95_test_vectors.md B6.13. -/
theorem test_vector_b6_13 :
    (after (st 0xFFFF 0x0 [(0x3000, 0x55), (0x3001, 0xaa)] [0xA7, 0x00, 0x30, 0xD4])).map (fun t => wordAt t 0x3000) =
    some (some 0x55AA) := by decide +kernel

/-- spec/95_test_vectors.md B7.3. -/
theorem test_vector_b7_3 :
    (after (loadCode (st 0x4 0x1000 [] [0xBC, 0xE7, 0x00, 0x20]) 0 0x2004 [0x00, 0x00])).map (fun t => (t.a, t.psw)) =
    some (0x0, 0x5000) := by decide +kernel

/-- spec/95_test_vectors.md B7.8. -/
theorem test_vector_b7_8 :
    (after (loadCode (st 0x1200 0x0 [] [0x8A, 0xB7, 0x34, 0x12]) 0 0x1234 [0x55])).map (fun t => t.a) =
    some (0x1255) := by decide +kernel

/-- spec/95_test_vectors.md B7.11. -/
theorem test_vector_b7_11 :
    (after (loadCode (st 0x8000 0x0 [] [0x60, 0xB6, 0x00, 0x02]) 0 0x200 [0x01, 0x00])).map (fun t => t.psw) =
    some (0x2200) := by decide +kernel

/-- spec/95_test_vectors.md B7.13. -/
theorem test_vector_b7_13 :
    (after (loadCode (st 0x10 0x0 [(0x202, 0x5), (0x203, 0x0)] [0x61, 0xF6, 0x00, 0x20]) 0 0x2005 [0x10])).map (fun t => t.psw) =
    some (0x4000) := by decide +kernel

/-- spec/95_test_vectors.md B8.2. -/
theorem test_vector_b8_2 :
    (after (st 0x0 0x4000 [(0x280, 0x8)] [0x68, 0x0B])).map (fun t => (t.cell 0x280, t.psw)) =
    some (some 0x8, 0x0) := by decide +kernel

/-- spec/95_test_vectors.md B8.4. -/
theorem test_vector_b8_4 :
    (after (st 0x0 0x0 [(0x2c5, 0x0)] [0x5F, 0x05])).map (fun t => (t.cell 0x2C5, t.psw)) =
    some (some 0x80, 0x4000) := by decide +kernel

/-- spec/95_test_vectors.md B8.7. -/
theorem test_vector_b8_7 :
    (after (st 0x0 0x0 [(0x2ff, 0x1)] [0x58, 0x7F])).map (fun t => t.cell 0x2FF) =
    some (some 0x0) := by decide +kernel

/-- spec/95_test_vectors.md B8.11. -/
theorem test_vector_b8_11 :
    (after (st 0x0 0x4000 [] [0x9A, 0x0F])).map (fun t => t.psw) =
    some (0xC000) := by decide +kernel

/-- spec/95_test_vectors.md B8.16. -/
theorem test_vector_b8_16 :
    (after (st 0x0 0x8000 [] [0x8A, 0x1B])).map (fun t => t.psw) =
    some (0x8008) := by decide +kernel

/-- spec/95_test_vectors.md B8.18a. -/
theorem test_vector_b8_18a :
    (after (st 0x0 0x8000 [(0x282, 0x4)] [0x6A, 0x4A])).map (fun t => t.psw) =
    some (0x0) := by decide +kernel

/-- spec/95_test_vectors.md B8.20. -/
theorem test_vector_b8_20 :
    (after (st 0xFE 0x0 [] [0xBC, 0x58])).map (fun t => t.psw) =
    some (0x8000) := by decide +kernel

/-- spec/95_test_vectors.md B8.23. -/
theorem test_vector_b8_23 :
    (after (st 0xFF 0x0 [(0x200, 0x0), (0x201, 0x10), (0x101f, 0x80)] [0xB0, 0xB9])).map (fun t => t.cell 0x101F) =
    some (some 0x0) := by decide +kernel

/-- spec/95_test_vectors.md B8.25. -/
theorem test_vector_b8_25 :
    (after (st 0x11 0x0 [(0x204, 0x0), (0x205, 0x4), (0x402, 0x2)] [0xB2, 0xBA])).map (fun t => t.psw) =
    some (0x8000) := by decide +kernel

/-- spec/95_test_vectors.md B8.26. -/
theorem test_vector_b8_26 :
    (after (st 0x7 0x8000 [(0x3000, 0x0)] [0xB7, 0x00, 0x30, 0xBB])).map (fun t => t.cell 0x3000) =
    some (some 0x80) := by decide +kernel

/-- spec/95_test_vectors.md B8.28. -/
theorem test_vector_b8_28 :
    (after (st 0xC 0x1000 [] [0x8A, 0xCA])).map (fun t => t.psw) =
    some (0x1000) := by decide +kernel

/-- spec/95_test_vectors.md B9.5. -/
theorem test_vector_b9_5 :
    (after (st 0x0 0x8000 [] [0xF5, 0x10])).map (fun t => t.pc) =
    some (0x102) := by decide +kernel

/-- spec/95_test_vectors.md B9.8. -/
theorem test_vector_b9_8 :
    (after (loadCode ({ st 0x0 0x0 [] [] with pc := 0x0 } : State) 0 0x0 [0xF6, 0xFE])).map (fun t => t.pc) =
    some (0x0) := by decide +kernel

/-- spec/95_test_vectors.md B9.9a. -/
theorem test_vector_b9_9a :
    (after (st 0x0 0x800 [] [0xF3, 0x02])).map (fun t => t.pc) =
    some (0x104) := by decide +kernel

/-- spec/95_test_vectors.md B9.16. -/
theorem test_vector_b9_16 :
    (after (loadCode ({ st 0x0 0x0 [] [] with pc := 0xFFFE } : State) 0 0xfffe [0x04, 0x10])).map (fun t => t.pc) =
    some (0x10) := by decide +kernel

/-- spec/95_test_vectors.md B9.20. -/
theorem test_vector_b9_20 :
    (after (st 0x0 0x0 [] [0x03, 0x34, 0x12])).map (fun t => t.pc) =
    some (0x1234) := by decide +kernel

/-- spec/95_test_vectors.md B9.23. -/
theorem test_vector_b9_23 :
    (after (st 0x0 0x0 [(0x310, 0x0), (0x311, 0x80)] [0xA5, 0x10, 0xC9])).map (fun t => t.pc) =
    some (0x8000) := by decide +kernel

/-- spec/95_test_vectors.md B9.24. -/
theorem test_vector_b9_24 :
    (after (loadCode ({ st 0x0 0x0 [(0x284, 0x3)] [] with pc := 0x202 } : State) 0 0x202 [0x05, 0x7E])).map (fun t => (t.cell 0x284, t.pc)) =
    some (some 0x2, 0x202) := by decide +kernel

/-- spec/95_test_vectors.md B9.26. -/
theorem test_vector_b9_26 :
    (after (st 0x0 0x0 [(0x285, 0x0)] [0x05, 0x80])).map (fun t => (t.cell 0x285, t.pc)) =
    some (some 0xFF, 0x82) := by decide +kernel

/-- spec/95_test_vectors.md B9.29. -/
theorem test_vector_b9_29 :
    (after (st 0x0 0x0 [(0x280, 0x2)] [0x68, 0xEA, 0xFD])).map (fun t => (t.cell 0x280, t.pc)) =
    some (some 0x1, 0x100) := by decide +kernel

/-- spec/95_test_vectors.md B9.31. -/
theorem test_vector_b9_31 :
    (after (st 0x0 0x0 [(0x200, 0x0), (0x201, 0x12)] [0x60, 0xEA, 0x10])).map (fun t => (wordAt t 0x200, t.pc)) =
    some (some 0x12FF, 0x113) := by decide +kernel

/-- spec/95_test_vectors.md B9.36. -/
theorem test_vector_b9_36 :
    (after (loadCode ({ st 0x0 0x0 [] [] with ssp := 0xFFF } : State) 0 0x100 [0xFE, 0x00, 0x20])).map (fun t => (wordAt t 0xFFE, t.ssp, t.pc)) =
    some (some 0x103, 0xFFD, 0x2000) := by decide +kernel

/-- spec/95_test_vectors.md B9.40. -/
theorem test_vector_b9_40 :
    (after (loadCode ({ st 0x0 0x0 [] [] with ssp := 0xFFF } : State) 0 0x100 [0x47, 0xFF])).map (fun t => (wordAt t 0xFFE, t.ssp, t.pc)) =
    some (some 0x102, 0xFFD, 0x13FF) := by decide +kernel

/-- spec/95_test_vectors.md B9.42. -/
theorem test_vector_b9_42 :
    (after (loadCode (loadCode ({ st 0x0 0x0 [] [] with ssp := 0xFFF } : State) 0 0x100 [0xE0]) 0 0x4a [0x00, 0x30])).map (fun t => (wordAt t 0xFFE, t.ssp, t.pc)) =
    some (some 0x101, 0xFFD, 0x3000) := by decide +kernel

/-- spec/95_test_vectors.md B9.44. -/
theorem test_vector_b9_44 :
    (after (loadCode ({ st 0x0 0x0 [(0xffe, 0x34), (0xfff, 0x12)] [] with ssp := 0xFFD } : State) 0 0x100 [0x01])).map (fun t => (t.pc, t.ssp)) =
    some (0x1234, 0xFFF) := by decide +kernel

/-- spec/95_test_vectors.md B9.55. -/
theorem test_vector_b9_55 :
    (after (st 0x0 0x0 [(0x204, 0x0), (0x205, 0x4), (0x400, 0x2)] [0xB2, 0x39, 0x10])).map (fun t => (t.cell 0x400, t.pc)) =
    some (some 0x0, 0x113) := by decide +kernel

/-- spec/95_test_vectors.md B9.57. -/
theorem test_vector_b9_57 :
    (after (st 0x0 0x0 [(0x287, 0x0)] [0x6F, 0x33, 0x10])).map (fun t => (t.cell 0x287, t.pc)) =
    some (some 0x8, 0x113) := by decide +kernel

/-- spec/95_test_vectors.md B9.59. -/
theorem test_vector_b9_59 :
    (after (st 0x0 0x0 [(0x2ef, 0x80)] [0x5F, 0xAF, 0x10])).map (fun t => t.pc) =
    some (0x113) := by decide +kernel

/-- spec/95_test_vectors.md B9.66. -/
theorem test_vector_b9_66 :
    (after (st 0x100 0x0 [] [0xBC, 0xA7, 0x10])).map (fun t => t.pc) =
    some (0x113) := by decide +kernel

/-- spec/95_test_vectors.md B9.67b. -/
theorem test_vector_b9_67b :
    (after (st 0x100 0x0 [] [0xBC, 0xA6, 0x10])).map (fun t => t.pc) =
    some (0x103) := by decide +kernel

/-- spec/95_test_vectors.md B10.1. -/
theorem test_vector_b10_1 :
    (after (loadCode (loadCode ({ st 0x55 0xFFFF [] [] with ssp := 0xFFF } : State) 0 0x100 [0x07, 0x08, 0x00, 0x30, 0x20]) 0 0x6 [0x00, 0x02])).map (fun t => (t.a, t.psw, t.ssp)) =
    some (0x0, 0x0, 0xFFFF) := by decide +kernel

/-- spec/95_test_vectors.md B10.8. -/
theorem test_vector_b10_8 :
    (after (loadCode ({ st 0x0 0x0 [(0xffe, 0x1), (0xfff, 0x1), (0xffc, 0x34), (0xffd, 0x12), (0xffa, 0x10), (0xffb, 0x3), (0xff8, 0x0), (0xff9, 0x11)] [] with ssp := 0xFF7 } : State) 0 0x100 [0x02])).map (fun t => (t.psw, t.a, t.pc)) =
    some (0x1100, 0x1234, 0x101) := by decide +kernel

/-- spec/95_test_vectors.md B10.12b. -/
theorem test_vector_b10_12b :
    (after (st 0x0 0xC000 [] [0xCA])).map (fun t => t.psw) =
    some (0x4000) := by decide +kernel

/-- spec/95_test_vectors.md B10.14a. -/
theorem test_vector_b10_14a :
    (after (st 0x0 0x0 [] [0xDB])).map (fun t => t.psw) =
    some (0x100) := by decide +kernel

/-- spec/95_test_vectors.md B10.15. -/
theorem test_vector_b10_15 :
    (after (st 0x1280 0x0 [] [0xFC])).map (fun t => (t.a, t.psw)) =
    some (0xFF80, 0x1800) := by decide +kernel

/-- spec/95_test_vectors.md B10.16. -/
theorem test_vector_b10_16 :
    (after (st 0xFF7F 0x800 [] [0xFC])).map (fun t => (t.a, t.psw)) =
    some (0x7F, 0x1000) := by decide +kernel

/-- spec/95_test_vectors.md B10.20. -/
theorem test_vector_b10_20 :
    (after (loadCode (loadCode ({ st 0x0 0x0 [(0x200, 0x2), (0x201, 0x50)] [] with romwin := 0x55, romwinWritten := true } : State) 0 0x100 [0x90]) 0 0x5000 [0x00, 0x01, 0x04, 0x09, 0x10])).map (fun t => t.a) =
    some (0x4) := by decide +kernel

/-! ## For every statement with hypotheses, a state and operands that meet them -/

/-- A in the small model with DP 0400H, X1 3000H, ER0 1122H, ER1 0002H, R7 80H, and memory at 0400H and 3000H. -/
def wit : State :=
  st 0x1234 0 [(0x204, 0x00), (0x205, 0x04), (0x200, 0x00), (0x201, 0x30), (0x280, 0x22), (0x281, 0x11), (0x282, 0x02),
    (0x287, 0x80), (0x400, 0x05), (0x401, 0x00), (0x3000, 0x34), (0x3001, 0x12)] [0x00]

/-- The same with DD 1. -/
def witDD : State := (wit.setPsw 0x1000).setDdFetch true

/-- The same under the medium model, in segment 2, with interrupt, reset and VCAL vectors and a table word. -/
def witFar : State :=
  loadCode ({ wit with model := .medium, modelSet := true, csr := 2 } : State) 0 0x0000
    [0x00, 0x01, 0x02, 0x03, 0x04, 0x05, 0x06, 0x07, 0x08, 0x09]

/-- The small model with the words at 0:0000H to 0:0069H programmed. -/
def witVec : State :=
  loadCode wit 0 0x0000 ((List.range 0x6A).map fun n => BitVec.ofNat 8 n)

/-- A device that has no memory above 0FFFH. -/
def smallDevice : Device := { Device.default with dataPresent := [(0, 0xFFF)], modelsPermitted := [.small] }

/-- A device whose word at 2000H lacks its upper byte, and whose word at 3000H its lower one. -/
def holesDevice : Device := { Device.default with dataPresent := [(0, 0xFFF), (0x2000, 0x2000), (0x3001, 0x3001)] }

/-- A state of the test device. -/
def witSfr : State := { wit with dev := testDevice }

theorem plainWord_iff {s : State} {off : Word} : PlainWord s off ↔
    (isSfr 0 off = false ∧ inRanges s.dev.dataPresent (key 0 (evenOff off)) = true
      ∧ inRanges s.dev.dataPresent (key 0 (evenOff off + 1)) = true ∧ s.throughWindow 0 off = false) := Iff.rfl

theorem registersPresent_of {s : State} (h : s.dev.dataPresent = [(0, 0xFFFFFF)]) : RegistersPresent s := by
  intro a _ h2
  rw [h]
  simp [inRanges]
  omega

theorem witness_RegistersPresent : RegistersPresent wit ∧ RegistersPresent witFar :=
  ⟨registersPresent_of (by decide +kernel), registersPresent_of (by decide +kernel)⟩

theorem witness_RegistersReadAndWrite : RegistersPresent wit := witness_RegistersPresent.1

theorem witness_DecodeUndoesEncode :
    (WellFormed testDevice (.pushs (.er true false true false)) = true ∧ followOk (.pushs (.er true false true false)) [] = true) ∧
    (WellFormed testDevice .stAX1 = true ∧ ddNeed .stAX1 = some true ∧ followOk .stAX1 [0x08] = true) ∧
    (WellFormed Device.default .pushsA = true ∧ followOk .pushsA [0x07] = true) ∧
    (WellFormed testDevice (.mac 0x10 3) = true ∧ WellFormed acalDevice (.acal 7 0xFF) = true ∧
      WellFormed Device.default (.pfxBPswl 0xE6) = true) := by decide +kernel

theorem witness_InstructionIsOneToSixBytes :
    decode Device.default true [0xA7, 0x00, 0x30, 0x9B, 0x00, 0x40] = .ok (.movDirW 0x4000 (.mem (.dir 0x3000)), 6) ∧
    6 ≤ [0xA7, 0x00, 0x30, 0x9B, 0x00, 0x40].length := by decide +kernel

theorem witness_StepRunsDecodedInstruction :
    (decode wit.dev wit.ddFetch wit.window = .ok (.nop, 1) ∧ wit.inputs = []) ∧
    (decode (wit.setInputs [[.irq 1]]).dev (wit.setInputs [[.irq 1]]).ddFetch (wit.setInputs [[.irq 1]]).window = .ok (.nop, 1) ∧
      (wit.setInputs [[.irq 1]]).inputs = [.irq 1] :: [] ∧ pickEvent ((wit.setInputs [[.irq 1]]).setInputs []) [.irq 1] = none) := by
  decide +kernel

theorem witness_StepKeepsInvariant : Inv wit ∧ ∃ t, step wit = .next t :=
  ⟨⟨by decide +kernel, by decide +kernel, by decide +kernel, by decide +kernel, by decide +kernel, by decide +kernel,
    by decide +kernel, by decide +kernel⟩, next_of (by decide +kernel)⟩

theorem witness_StepLeavesProgramMemory : ∃ t, step wit = .next t := next_of (by decide +kernel)

theorem witness_DdFetchAfterInstruction :
    (∃ u, exec .nop wit = .next u) ∧ (∃ u, exec .sdd wit = .next u) ∧ (∃ u, exec (.lAEr .er0) wit = .next u) ∧
    (∃ u, exec .brk witVec = .next u) ∧ (∃ u, exec .frt witVec = .next u) ∧ (∃ u, exec (.fj 3 0x1234) witFar = .next u) ∧
    (∃ u, exec (.pops (.cr false false true)) (put (wit.setSsp 0xFFC) [(0xFFE, 0), (0xFFF, 0x10)]) = .next u) :=
  ⟨next_of (by decide +kernel), next_of (by decide +kernel), next_of (by decide +kernel), next_of (by decide +kernel),
    next_of (by decide +kernel), next_of (by decide +kernel), next_of (by decide +kernel)⟩

theorem witness_OnlyTransfersChangeCsrAndModel :
    (∃ u, exec (.fj 3 0x1234) witFar = .next u ∧ decide (u.csr ≠ witFar.csr) = true) ∧
    (∃ u, exec .brk witFar = .next u ∧ decide (u.model ≠ witFar.model ∧ u.modelSet ≠ witFar.modelSet) = true) :=
  ⟨next_with (by decide +kernel), next_with (by decide +kernel)⟩

theorem witness_RegistersStandInMemory :
    memReadByte wit 0 (wit.rAddr 1) = .ok 0x11 ∧ memReadByte wit 0 (wit.rAddr 0) = .ok 0x22 ∧
    wit.rAddr 7 = 0x287 ∧ wit.prAddr .usp = 0x206 ∧
    (State.reset.setLrb 0xFF).rAddr 7 = 0x9FF ∧ (State.reset.setPsw 7).prAddr .usp = 0x23E := by decide +kernel

theorem witness_WordBoundary :
    memReadByte wit 0 (0x3001 &&& 0xFFFE) = .ok 0x34 ∧ memReadByte wit 0 ((0x3001 &&& 0xFFFE) + 1) = .ok 0x12 ∧
    codeReadByte witVec 0 0x0001 = .ok 0x01 ∧ codeReadByte witVec 0 (0x0001 + 1) = .ok 0x02 := by decide +kernel

theorem witness_StoreThenRead :
    (isSfr 0 0x200 = false ∧ inRanges wit.dev.dataPresent (key 0 0x200) = true) ∧
    (isSfr 0xFF 0xFFFF = false ∧ inRanges wit.dev.dataPresent (key 0xFF 0xFFFF) = true) ∧
    (isSfr 0 0x1000 = false ∧ inRanges smallDevice.dataPresent (key 0 0x1000) = false) ∧
    (isSfr 0 0x201 = false ∧ inRanges wit.dev.dataPresent (key 0 (evenOff 0x201)) = true ∧
      inRanges wit.dev.dataPresent (key 0 (evenOff 0x201) + 1) = true) ∧
    (isSfr 0 0x2001 = false ∧ inRanges holesDevice.dataPresent (key 0 (evenOff 0x2001)) = true ∧
      inRanges holesDevice.dataPresent (key 0 (evenOff 0x2001) + 1) = false ∧
      memReadByte (put ({ wit with dev := holesDevice } : State) [(0x2000, 7)]) 0 (evenOff 0x2001) = .ok 7) ∧
    (isSfr 0 0x3000 = false ∧ inRanges holesDevice.dataPresent (key 0 (evenOff 0x3000)) = false ∧
      inRanges holesDevice.dataPresent (key 0 (evenOff 0x3000) + 1) = true) := by decide +kernel

theorem witness_DataSegmentOfOffset :
    (0x3FF : Word).toNat ≤ 0x3FF ∧
    (Psw.bcb (wit.setPsw 0x10).psw = 1 ∧ (0x1FFF : Word).toNat ≤ 0x1FFF) ∧
    (Psw.bcb (wit.setPsw 0x20).psw = 2 ∧ (0x3FFF : Word).toNat ≤ 0x3FFF) ∧
    (Psw.bcb (wit.setPsw 0x30).psw = 3 ∧ (0x7FFF : Word).toNat ≤ 0x7FFF) ∧
    (wit.model = .small ∧ witFar.model = .medium) ∧
    ((wit.setModelRaw .large true).model = .large ∧ (wit.setModelRaw .compact true).model = .compact ∧
      0x7FFF < (0x8000 : Word).toNat ∧ (Psw.bcb wit.psw = 0 ∧ 0x3FF < (0x400 : Word).toNat) ∧
      (Psw.bcb (wit.setPsw 0x10).psw = 1 ∧ 0x1FFF < (0x2000 : Word).toNat) ∧
      (Psw.bcb (wit.setPsw 0x20).psw = 2 ∧ 0x3FFF < (0x4000 : Word).toNat)) := by decide +kernel

theorem witness_RomWindowReadsTableSegment :
    ((wit.setRomwinRaw 0x55 true).inWindow 0x5000 = true ∧ (wit.setRomwinRaw 0x55 true).inWindow 0x5FFF = true ∧
      inRanges (wit.setRomwinRaw 0x55 true).dev.internalData (key ((wit.setRomwinRaw 0x55 true).physSeg 0x5000) 0x5000) = false) ∧
    ((wit.setRomwinRaw 0x55 true).inWindow 0x4FFF = false ∧ (wit.setRomwinRaw 0x55 true).inWindow 0x6000 = false) := by
  decide +kernel

theorem witness_RegistersInTheSfrArea :
    isSfr 0 0x6 = true ∧ sfrAt witSfr.dev (0x6 : Word).toNat = .accL ∧ sfrAt witSfr.dev (0x7 : Word).toNat = .accH ∧
    sfrAt witSfr.dev (0x8 : Word).toNat = .tsr ∧ sfrAt witSfr.dev (0x9 : Word).toNat = .dsr ∧
    sfrAt witSfr.dev (0xB : Word).toNat = .romwin ∧ witSfr.romwinWritten = false ∧
    (witSfr.setRomwinRaw 0x55 true).romwinWritten = true ∧ isSfr 0 0x1FF = true ∧ sfrOddWord witSfr 0x4 = false ∧
    sfrAt witSfr.dev (0xB : Byte).toNat = .romwin ∧ sfrAt witSfr.dev (0x6 : Byte).toNat = .accL := by decide +kernel

theorem witness_StoreToLocation :
    (sfrOddWord witSfr 0x13 = true ∧ sfrOddWord witSfr 0x12 = false ∧ sfrOddWord witSfr 0x3001 = false) ∧
    (wrW .acc 7 wit = .ok (wit.setA 7) ∧ Loc.inSfr .acc wit = false) ∧
    (∃ t, wrW (.data 0x3001) 7 wit = .ok t) ∧ Loc.inSfr (.data 0x3001) wit = false ∧
    (wrB (.psw true) 7 wit = .ok (wit.setPsw 0x0700) ∧ Loc.inSfr (.psw true) wit = false) ∧
    (∃ t, wrB (.phys 0x200) 7 wit = .ok t) ∧ Loc.inSfr (.phys 0x200) wit = false :=
  ⟨by decide +kernel, by decide +kernel, ok_of (by decide +kernel), by decide +kernel, by decide +kernel, ok_of (by decide +kernel),
    by decide +kernel⟩

theorem witness_AddressingModes :
    prRead wit .x1 = .ok 0x3000 ∧ rRead wit .r0 = .ok 0x22 ∧ prRead wit .x2 = .ok 0 ∧ prRead wit .dp = .ok 0x400 ∧
    prRead wit .usp = .ok 0 ∧ (∃ t, prWrite wit .dp (0x400 + 2) = .ok t) ∧ (∃ t, prWrite wit .dp (0x400 - 1) = .ok t) ∧
    locW (.er .er0) wit = .ok (.phys 0x280, wit) ∧ WOp.movesDp (.er .er0) = false ∧
    locB (.r .r7) wit = .ok (.phys 0x287, wit) ∧ BOp.movesDp (.r .r7) = false ∧
    (∃ x, locW (.mem .dpInc) wit = .ok x) ∧ (∃ x, locB (.mem .dpDec) wit = .ok x) :=
  ⟨by decide +kernel, by decide +kernel, by decide +kernel, by decide +kernel, by decide +kernel, ok_of (by decide +kernel),
    ok_of (by decide +kernel), by decide +kernel, by decide, by decide +kernel, by decide, ok_of (by decide +kernel),
    ok_of (by decide +kernel)⟩

theorem witness_PopUndoesPush : PlainWord wit wit.ssp ∧ PlainWord (wit.setSsp 0x200) (wit.setSsp 0x200).ssp :=
  ⟨plainWord_iff.2 (by decide +kernel), plainWord_iff.2 (by decide +kernel)⟩

/-- Set 1 of the local registers with ER0 to ER3 1111H to 4444H, and the stack inside them. -/
def witOverlap : State :=
  put ((wit.setLrb 0x301).setSsp 0x20C) [(0x208, 0x11), (0x209, 0x11), (0x20A, 0x22), (0x20B, 0x22), (0x20C, 0x33),
    (0x20D, 0x33), (0x20E, 0x44), (0x20F, 0x44)]

/-- PUSHS ER over its own registers, by hand from the order of R243 and R111: ER3 goes over ER2, which is pushed next. -/
theorem test_pushs_reads_at_its_turn :
    (match exec (.pushs (.er true true true true)) witOverlap with
      | .next t => (wordAt t 0x20C, wordAt t 0x20A, wordAt t 0x208, wordAt t 0x206, t.ssp)
      | _ => (none, none, none, none, 0)) = (some 0x4444, some 0x4444, some 0x4444, some 0x4444, 0x204) := by decide +kernel

/-- PUSHS CR with the stack on PSW: A goes over PSW, which is pushed last, over SSP (R23, R48, R243). -/
theorem test_pushs_control_registers_over_themselves :
    (match exec (.pushs (.cr true true true)) (wit.setSsp 4) with
      | .next t => (t.psw, t.lrb, t.ssp)
      | _ => (0, 0, 0)) = (0x1234, 0x310, 0x1232) := by decide +kernel

theorem witness_PushRegisters :
    PlainWord wit wit.ssp ∧
    (∃ u, pushReads [fun t => memReadWord t 0 (witOverlap.rAddr 6), fun t => memReadWord t 0 (witOverlap.rAddr 4)] witOverlap = .ok u) ∧
    (∃ u, pushReads [fun t => memReadWord t 0 (wit.prAddr .usp), fun t => memReadWord t 0 (wit.prAddr .x1)] wit = .ok u) ∧
    (∃ u, pushReads [fun t => .ok t.a, fun t => .ok t.lrb, fun t => .ok t.psw] wit = .ok u) ∧
    RegistersPresent wit ∧ 0xA08 ≤ wit.ssp.toNat ∧ 0xA08 ≤ (wit.setSsp 0xA08).ssp.toNat ∧
    (∀ k, k < 4 → PlainWord wit (wit.ssp - BitVec.ofNat 16 (2 * k))) ∧
    (∀ k, k < 4 → PlainWord (wit.setSsp 0xA08) ((wit.setSsp 0xA08).ssp - BitVec.ofNat 16 (2 * k))) := by
  refine ⟨plainWord_iff.2 (by decide +kernel), ok_of (by decide +kernel), ok_of (by decide +kernel), ok_of (by decide +kernel),
    witness_RegistersPresent.1, by decide +kernel, by decide +kernel, ?_, ?_⟩ <;> intro k hk <;> interval_cases k <;>
    exact plainWord_iff.2 (by decide +kernel)

/-- A device SFR whose behaviour is the device's own, and a word access the device makes an exception for (R108, U11). -/
theorem test_sfr_map :
    memReadByte witSfr 0 0x12 = .ok (Config.sfrReads testDevice 0x12 0) ∧
    memWriteByte witSfr 0 0x12 5 = .ok (witSfr.putCell 0x12 (Config.sfrWrites testDevice 0x12 0 5)) ∧
    rdW (.data 0x13) witSfr = .error (.fault .sfrWordException) ∧
    wrW (.data 0x13) 5 witSfr = .error (.fault .sfrWordException) ∧
    memReadByte witSfr 0 0x13 = .ok 0 ∧ rdW (.data 0x10) witSfr = .error (.fault .sfrUnassigned) := ⟨rfl, rfl, rfl, rfl, rfl, rfl⟩

theorem witness_PopsUndoesPushs :
    RegistersPresent wit ∧ 0xA08 ≤ wit.ssp.toNat ∧
    (∀ k, k < 4 → PlainWord wit (wit.ssp - BitVec.ofNat 16 (2 * k))) ∧
    (∀ k, k < 4 → PlainWord (wit.setSsp 0xA08) ((wit.setSsp 0xA08).ssp - BitVec.ofNat 16 (2 * k))) := by
  refine ⟨witness_RegistersPresent.1, by decide +kernel, ?_, ?_⟩ <;> intro k hk <;> interval_cases k <;>
    exact plainWord_iff.2 (by decide +kernel)

theorem witness_PopsResult :
    let s := put (wit.setSsp 0xFFC) [(0xFFE, 0x78), (0xFFF, 0x56), (0x1000, 1), (0x1001, 2)]
    let l := RegList.er true false true false
    RegistersPresent s ∧ 0x9FE ≤ s.ssp.toNat ∧ s.ssp.toNat + 2 * RegList.count l < 0x10000 ∧
      (∀ k, 1 ≤ k → k ≤ RegList.count l → PlainWord s (s.ssp + BitVec.ofNat 16 (2 * k)) ∧
        ∃ v, memReadWord s 0 (s.ssp + BitVec.ofNat 16 (2 * k)) = .ok v) := by
  refine ⟨registersPresent_of (by decide +kernel), by decide +kernel, by decide +kernel, ?_⟩
  intro k h1 h2
  have h3 : k ≤ 2 := h2
  interval_cases k <;> exact ⟨plainWord_iff.2 (by decide +kernel), ok_of (by decide +kernel)⟩

theorem witness_LoadResult :
    (shapeOf (.lAEr .er0) = some (.loadW (.er .er0)) ∧ locW (.er .er0) wit = .ok (.phys 0x280, wit) ∧
      rdW (.phys 0x280) wit = .ok 0x1122) ∧
    (shapeOf (.lbAR .r7) = some (.loadB (.r .r7)) ∧ locB (.r .r7) wit = .ok (.phys 0x287, wit) ∧
      rdB (.phys 0x287) wit = .ok 0x80) ∧
    shapeOf .clrA = some (.loadImmW 0) ∧ shapeOf .clrbA = some (.loadImmB 0) := by decide +kernel

theorem witness_MoveResult :
    (shapeOf (.movDirW 0x3001 (.er .er0)) = some (.moveW (.mem (.dir 0x3001)) (.er .er0)) ∧
      locW (.er .er0) wit = .ok (.phys 0x280, wit) ∧ locW (.mem (.dir 0x3001)) wit = .ok (.data 0x3001, wit) ∧
      rdW (.phys 0x280) wit = .ok 0x1122 ∧ ∃ u, wrW (.data 0x3001) 0x1122 wit = .ok u) ∧
    (shapeOf (.stbAR .r7) = some (.moveB (.r .r7) .acc) ∧ locB .acc wit = .ok (.acc, wit) ∧
      locB (.r .r7) wit = .ok (.phys 0x287, wit) ∧ rdB .acc wit = .ok 0x34 ∧ ∃ u, wrB (.phys 0x287) 0x34 wit = .ok u) ∧
    (shapeOf (.fillW (.er .er3)) = some (.constW (.er .er3) 0xFFFF) ∧ ∃ u, wrW (.phys 0x286) 0xFFFF wit = .ok u) ∧
    (shapeOf (.clrbB .pswh) = some (.constB .pswh 0) ∧ wrB (.psw true) 0 wit = .ok (wit.setPsw 0)) :=
  ⟨⟨by decide +kernel, by decide +kernel, by decide +kernel, by decide +kernel, ok_of (by decide +kernel)⟩,
    ⟨by decide +kernel, by decide +kernel, by decide +kernel, by decide +kernel, ok_of (by decide +kernel)⟩,
    ⟨by decide +kernel, ok_of (by decide +kernel)⟩, by decide +kernel⟩

theorem witness_ExchangeResult :
    (witDD.ddFetch = true ∧ locW (.er .er0) witDD = .ok (.phys 0x280, witDD) ∧ rdW (.phys 0x280) witDD = .ok 0x1122 ∧
      ∃ u, wrW (.phys 0x280) witDD.a witDD = .ok u) ∧
    (wit.ddFetch = false ∧ locB (.r .r7) wit = .ok (.phys 0x287, wit) ∧ rdB (.phys 0x287) wit = .ok 0x80 ∧
      ∃ u, wrB (.phys 0x287) (loByte wit.a) wit = .ok u) :=
  ⟨⟨by decide +kernel, by decide +kernel, by decide +kernel, ok_of (by decide +kernel)⟩,
    ⟨by decide +kernel, by decide +kernel, by decide +kernel, ok_of (by decide +kernel)⟩⟩

theorem witness_WidthMismatchFaults :
    (wit.ddFetch = false ∧ shapeOf (.addAW (.er .er0)) = some (.aluAW true .add (.er .er0)) ∧
      shapeOf (.xchgAW (.er .er0)) = some (.exchW (.er .er0))) ∧
    (witDD.ddFetch = true ∧ shapeOf (.addbAB (.r .r0)) = some (.aluAB true .add (.r .r0)) ∧
      shapeOf (.xchgbAB (.r .r0)) = some (.exchB (.r .r0))) := by decide +kernel

theorem witness_ShiftResult :
    (shapeOf (.rolWWidth (.er .er0) 3) = some (.shiftW .rol (.er .er0) 4) ∧ locW (.er .er0) wit = .ok (.phys 0x280, wit) ∧
      rdW (.phys 0x280) wit = .ok 0x1122 ∧
      ∃ u, wrW (.phys 0x280) (shiftRun .rol (Psw.c wit.psw) (0x1122 : Word) 4).1
        (wit.setPsw (Psw.setC wit.psw (shiftRun .rol (Psw.c wit.psw) (0x1122 : Word) 4).2)) = .ok u) ∧
    (shapeOf .sllbA = some (.shiftB .sll .acc 1) ∧ locB .acc wit = .ok (.acc, wit) ∧ rdB .acc wit = .ok 0x34 ∧
      ∃ u, wrB .acc (shiftRun .sll (Psw.c wit.psw) (0x34 : Byte) 1).1
        (wit.setPsw (Psw.setC wit.psw (shiftRun .sll (Psw.c wit.psw) (0x34 : Byte) 1).2)) = .ok u) :=
  ⟨⟨by decide +kernel, by decide +kernel, by decide +kernel, ok_of (by decide +kernel)⟩,
    ⟨by decide +kernel, by decide +kernel, by decide +kernel, ok_of (by decide +kernel)⟩⟩

theorem witness_IncDecResult :
    (shapeOf (.incW (.er .er3)) = some (.incDecW false (.er .er3)) ∧ locW (.er .er3) wit = .ok (.phys 0x286, wit) ∧
      rdW (.phys 0x286) wit = .ok 0x8000) ∧ (∀ q, ∃ u, wrW (.phys 0x286) 0x8001 (wit.setPsw q) = .ok u) ∧
    (shapeOf (.decW (.er .er3)) = some (.incDecW true (.er .er3))) ∧ (∀ q, ∃ u, wrW (.phys 0x286) 0x7FFF (wit.setPsw q) = .ok u) ∧
    (shapeOf (.incbR 3) = some (.incDecB false (.r .r3)) ∧ locB (.r .r3) wit = .ok (.phys 0x283, wit) ∧
      rdB (.phys 0x283) wit = .ok 0) ∧ (∀ q, ∃ u, wrB (.phys 0x283) 1 (wit.setPsw q) = .ok u) ∧
    (shapeOf (.decbR 3) = some (.incDecB true (.r .r3))) ∧ (∀ q, ∃ u, wrB (.phys 0x283) 0xFF (wit.setPsw q) = .ok u) :=
  ⟨by decide +kernel, fun _ => ok_of (by rfl), by decide +kernel, fun _ => ok_of (by rfl), by decide +kernel,
    fun _ => ok_of (by rfl), by decide +kernel, fun _ => ok_of (by rfl)⟩

theorem witness_ShiftMeaning : ((8 = 8 ∨ 8 = 16) ∧ 1 ≤ 1 ∧ 1 ≤ 4) ∧ ((16 = 8 ∨ 16 = 16) ∧ 1 ≤ 4 ∧ 4 ≤ 4) := by decide

theorem witness_ConditionsAfterCompare : (8 = 8 ∨ 8 = 16) ∧ (16 = 8 ∨ 16 = 16) := by decide

theorem witness_AluMeaning : (8 = 8 ∨ 8 = 16) ∧ (16 = 8 ∨ 16 = 16) ∧
    (true = Psw.c (0x8000 : Word) ∧ 0x10000 = (0xFFFF : Word).toNat + (0 : Word).toNat + true.toNat) ∧
    ((-256 : Int) = (0 : Byte).toNat - (0xFF : Byte).toNat - true.toNat) := by decide

theorem witness_AluResult :
    (shapeOf (.subAW (.er .er0)) = some (.aluAW true .sub (.er .er0)) ∧ witDD.ddFetch = true ∧
      locW (.er .er0) witDD = .ok (.phys 0x280, witDD) ∧ rdW (.phys 0x280) witDD = .ok 0x1122) ∧
    (shapeOf (.cmpbAB (.r .r7)) = some (.aluAB true .cmp (.r .r7)) ∧ wit.ddFetch = false ∧
      locB (.r .r7) wit = .ok (.phys 0x287, wit) ∧ rdB (.phys 0x287) wit = .ok 0x80) ∧
    (shapeOf (.sbcAImm 0x8000) = some (.aluImmW .sbc 0x8000) ∧ shapeOf (.xorbAImm 0xFF) = some (.aluImmB .xor 0xFF)) ∧
    (shapeOf (.addWFix (.er .er0) 4) = some (.aluMW .add (.er .er0) (.mem (.fix 4))) ∧
      locW (.er .er0) wit = .ok (.phys 0x280, wit) ∧ srcLocW (.mem (.fix 4)) wit = .ok (.inl (.data 0x204), wit) ∧
      rdW (.phys 0x280) wit = .ok 0x1122 ∧ srcRdW (.inl (.data 0x204)) wit = .ok 0x400 ∧
      ∃ u, wrW (.phys 0x280) (aluRun .add wit.psw (0x1122 : Word) 0x400).1
        (wit.setPsw (aluRun .add wit.psw (0x1122 : Word) 0x400).2) = .ok u) ∧
    (shapeOf (.cmpbBImm .pswh 1) = some (.aluMB .cmp .pswh (.imm 1)) ∧ locB .pswh wit = .ok (.psw true, wit) ∧
      srcLocB (.imm 1) wit = .ok (.inr 1, wit) ∧ rdB (.psw true) wit = .ok 0 ∧ srcRdB (.inr 1) wit = .ok 1) :=
  ⟨by decide +kernel, by decide +kernel, by decide +kernel, ⟨by decide +kernel, by decide +kernel, by decide +kernel,
    by decide +kernel, by decide +kernel, ok_of (by decide +kernel)⟩, by decide +kernel⟩

theorem witness_MultiplyResult :
    RegistersPresent wit ∧ (locW (.er .er3) wit = .ok (.phys 0x286, wit) ∧ rdW (.phys 0x286) wit = .ok 0x8000) ∧
    (locW .acc wit = .ok (.acc, wit) ∧ rdW .acc wit = .ok 0x1234) ∧
    (locB (.r .r7) wit = .ok (.phys 0x287, wit) ∧ rdB (.phys 0x287) wit = .ok 0x80) :=
  ⟨witness_RegistersPresent.1, by decide +kernel, by decide +kernel, by decide +kernel⟩

theorem witness_DivideResult :
    RegistersPresent (wit.setA 1) ∧
    (locW (.er .er1) (wit.setA 1) = .ok (.phys 0x282, wit.setA 1) ∧ rdW (.phys 0x282) (wit.setA 1) = .ok 2 ∧
      erRead (wit.setA 1) .er0 = .ok 0x1122 ∧ (0x10000 * (wit.setA 1).a.toNat + 0x1122) / 2 ≤ 0xFFFF) ∧
    (locB (.r .r7) (wit.setA 1) = .ok (.phys 0x287, wit.setA 1) ∧ rdB (.phys 0x287) (wit.setA 1) = .ok 0x80) :=
  ⟨registersPresent_of (by decide +kernel), by decide +kernel, by decide +kernel⟩

theorem witness_DivideOpenCases :
    RegistersPresent wit ∧ (locW (.er .er2) wit = .ok (.phys 0x284, wit) ∧ rdW (.phys 0x284) wit = .ok 0) ∧
    (locW (.er .er1) wit = .ok (.phys 0x282, wit) ∧ rdW (.phys 0x282) wit = .ok 2 ∧ erRead wit .er0 = .ok 0x1122 ∧
      0xFFFF < (wit.a.toNat * 0x10000 + (0x1122 : Word).toNat) / (2 : Word).toNat) ∧
    (locB (.r .r4) wit = .ok (.phys 0x284, wit) ∧ rdB (.phys 0x284) wit = .ok 0) :=
  ⟨witness_RegistersPresent.1, by decide +kernel, by decide +kernel, by decide +kernel⟩

theorem witness_TableResult :
    (locW (.er .er1) witVec = .ok (.phys 0x282, witVec) ∧ rdW (.phys 0x282) witVec = .ok 2 ∧ (0x12 : Word) = 2 + 0x10 ∧
      shapeOf (.lcAT16 (.er .er1) 0x10) = some (.tableW false (some (.er .er1)) 0x10) ∧
      codeReadWord witVec witVec.tableSeg 0x12 = .ok 0x1312) ∧
    (shapeOf (.cmpcATadr 0x13) = some (.tableW true none 0x13) ∧ codeReadWord witVec witVec.tableSeg 0x13 = .ok 0x1413) ∧
    (shapeOf (.lcbATadr 0) = some (.tableB false none 0) ∧ codeReadByte witVec witVec.tableSeg 0 = .ok 0) ∧
    (shapeOf (.cmpcbAInd (.er .er1)) = some (.tableB true (some (.er .er1)) 0) ∧
      codeReadByte witVec witVec.tableSeg 2 = .ok 2) := by decide +kernel

theorem witness_BitWriteResult :
    (shapeOf (.sbSbafix 7 0x3F) = some (.bitSet true (.sbafix 0x3F) 7) ∧
      locBit (.sbafix 0x3F) wit = .ok (.data 0x2FF, wit) ∧ rdB (.data 0x2FF) wit = .ok 0 ∧
      ∃ u, wrB (.data 0x2FF) (putBit 0 7 true) (wit.setPsw (Psw.setZ wit.psw true)) = .ok u) ∧
    (shapeOf (.mbBitC (.r .r7) 0) = some (.bitFromC (.r .r7) 0) ∧ locB (.r .r7) wit = .ok (.phys 0x287, wit) ∧
      rdB (.phys 0x287) wit = .ok 0x80 ∧ ∃ u, wrB (.phys 0x287) (putBit 0x80 0 (Psw.c wit.psw)) wit = .ok u) :=
  ⟨⟨by decide +kernel, by decide +kernel, by decide +kernel, ok_of (by decide +kernel)⟩,
    ⟨by decide +kernel, by decide +kernel, by decide +kernel, ok_of (by decide +kernel)⟩⟩

theorem witness_BitToCarryResult : locB (.r .r7) wit = .ok (.phys 0x287, wit) ∧ rdB (.phys 0x287) wit = .ok 0x80 := by
  decide +kernel

theorem witness_BitBlockResult :
    (locB (.r .r0) wit = .ok (.phys 0x280, wit) ∧ 0x34 = (loByte wit.a).toNat ∧ rdB (.phys (0x280 + 6)) wit = .ok 0 ∧
      (∃ u, wrB (.phys 0x286) (putBit 0 4 true) (wit.setPsw (Psw.setZ wit.psw true)) = .ok u) ∧
      ∃ u, wrB (.phys 0x286) (putBit 0 4 (Psw.c wit.psw)) wit = .ok u) ∧
    (locB .pswl (wit.setA 15) = .ok (.psw false, wit.setA 15) ∧ 15 = (loByte (wit.setA 15).a).toNat ∧
      rdB (.psw true) (wit.setA 15) = .ok 0) ∧
    (locB .acc (wit.setA 255) = .ok (.acc, wit.setA 255) ∧ rdB .acc (wit.setA 255) = .ok 0xFF) ∧
    (locB (.mem .dp) (wit.setA 7) = .ok (.data 0x400, wit.setA 7) ∧ rdB (.data 0x400) (wit.setA 7) = .ok 5) :=
  ⟨⟨by decide +kernel, by decide +kernel, by decide +kernel, ok_of (by decide +kernel), ok_of (by decide +kernel)⟩,
    by decide +kernel, by decide +kernel, by decide +kernel⟩

theorem witness_BitAndTestJumpResult :
    (shapeOf (.jbsBit (.r .r7) 7 0x10) = some (.jumpBit true (.pre (.r .r7)) 7 0x10) ∧
      locBit (.pre (.r .r7)) wit = .ok (.phys 0x287, wit) ∧ rdB (.phys 0x287) wit = .ok 0x80) ∧
    (shapeOf (.jbsrBit (.r .r7) 7 0x10) = some (.jumpFlip true (.r .r7) 7 0x10) ∧ (0x80 : Byte).getLsbD 7 = true ∧
      ∃ u, wrB (.phys 0x287) (putBit 0x80 7 false) wit = .ok u) ∧
    (shapeOf (.jbrsBit (.r .r7) 7 0x10) = some (.jumpFlip false (.r .r7) 7 0x10) ∧ (0x80 : Byte).getLsbD 7 ≠ false) ∧
    (shapeOf (.tjzA 0x80) = some (.testW true .acc 0x80) ∧ locW .acc wit = .ok (.acc, wit) ∧ rdW .acc wit = .ok 0x1234) ∧
    (shapeOf (.tjnzbB (.r .r4) 0x7F) = some (.testB false (.r .r4) 0x7F) ∧ rdB (.phys 0x284) wit = .ok 0) :=
  ⟨by decide +kernel, ⟨by decide +kernel, by decide +kernel, ok_of (by decide +kernel)⟩, by decide +kernel,
    by decide +kernel, by decide +kernel⟩

theorem witness_LoopJumpResult :
    (memReadByte wit 0 (wit.rAddr 4) = .ok 0 ∧ ∃ u, memWriteByte wit 0 (wit.rAddr 4) (0 - 1) = .ok u) ∧
    (memReadByte wit 0 (wit.prAddr .dp) = .ok 0 ∧ ∃ u, memWriteByte wit 0 (wit.prAddr .dp) (0 - 1) = .ok u) ∧
    (locB (.r .r2) wit = .ok (.phys 0x282, wit) ∧ rdB (.phys 0x282) wit = .ok 2 ∧ ∃ u, wrB (.phys 0x282) (2 - 1) wit = .ok u) :=
  ⟨⟨by decide +kernel, ok_of (by decide +kernel)⟩, ⟨by decide +kernel, ok_of (by decide +kernel)⟩,
    ⟨by decide +kernel, by decide +kernel, ok_of (by decide +kernel)⟩⟩

theorem witness_NearTransferResult :
    (locW (.er .er0) wit = .ok (.phys 0x280, wit) ∧ rdW (.phys 0x280) wit = .ok 0x1122) ∧ ∃ u, push16 wit wit.pc = .ok u :=
  ⟨by decide +kernel, ok_of (by decide +kernel)⟩

theorem witness_ReturnUndoesCall :
    ((∃ u, exec (.calCadr 0x2000) wit = .next u) ∧ (∃ u, exec (.vcal 15) witVec = .next u) ∧ witVec.farCode = false ∧
      PlainWord wit wit.ssp ∧ PlainWord witVec witVec.ssp) ∧
    ((∃ u, exec (.fcal 3 0x2000) witFar = .next u) ∧ witFar.farCode = true ∧ PlainWord witFar witFar.ssp ∧
      PlainWord witFar (witFar.ssp - 2) ∧ witFar.csr &&& segMask witFar.dev.csrBits = witFar.csr) :=
  ⟨⟨next_of (by decide +kernel), next_of (by decide +kernel), by decide +kernel, plainWord_iff.2 (by decide +kernel),
    plainWord_iff.2 (by decide +kernel)⟩, ⟨next_of (by decide +kernel), by decide +kernel, plainWord_iff.2 (by decide +kernel),
    plainWord_iff.2 (by decide +kernel), by decide +kernel⟩⟩

theorem witness_VectorCallResult :
    (codeReadWord witVec 0 (0x4A + 2 * BitVec.ofNat 16 (15 : Fin 16).val) = .ok 0x6968 ∧ witVec.farCode = false ∧
      codeReadWord (witVec.setModelRaw .large true) 0 (0x4A + 2 * BitVec.ofNat 16 (0 : Fin 16).val) = .ok 0x4B4A ∧
      (witVec.setModelRaw .large true).farCode = true) ∧ (∃ t, push16 witVec witVec.pc = .ok t) ∧
    ∃ t u, push16 (witVec.setModelRaw .large true) witVec.pc = .ok t ∧ push16 t (witVec.csr.setWidth 16) = .ok u := by
  refine ⟨by decide +kernel, ok_of (by decide +kernel), ?_⟩
  have h : (do let t ← push16 (witVec.setModelRaw .large true) witVec.pc; push16 t (witVec.csr.setWidth 16)).toBool = true := by
    decide +kernel
  obtain ⟨u, hu⟩ := ok_of h
  cases ht : push16 (witVec.setModelRaw .large true) witVec.pc with
  | error e => rw [ht] at hu; cases hu
  | ok t => rw [ht] at hu; exact ⟨t, u, rfl, hu⟩

theorem witness_FarTransferResult :
    witFar.farCode = true ∧
      (do let t ← push16 witFar witFar.pc; push16 t (witFar.csr.setWidth 16)).toBool = true ∧
    (∃ w t, pop16 (put (wit.setSsp 0xFFC) [(0xFFE, 0x34), (0xFFF, 0x12)]) = .ok (w, t)) ∧
    (∃ c t w u, pop16 (put (witFar.setSsp 0xFFA) [(0xFFC, 2), (0xFFD, 0), (0xFFE, 0x34), (0xFFF, 0x12)]) = .ok (c, t) ∧
      pop16 t = .ok (w, u)) := by
  refine ⟨by decide +kernel, by decide +kernel, ?_, ?_⟩
  · obtain ⟨⟨w, t⟩, h⟩ := ok_of (r := pop16 (put (wit.setSsp 0xFFC) [(0xFFE, 0x34), (0xFFF, 0x12)])) (by decide +kernel)
    exact ⟨w, t, h⟩
  · have h : (do
        let (_, t) ← pop16 (put (witFar.setSsp 0xFFA) [(0xFFC, 2), (0xFFD, 0), (0xFFE, 0x34), (0xFFF, 0x12)])
        pop16 t).toBool = true := by decide +kernel
    obtain ⟨⟨w, u⟩, hu⟩ := ok_of h
    cases ht : pop16 (put (witFar.setSsp 0xFFA) [(0xFFC, 2), (0xFFD, 0), (0xFFE, 0x34), (0xFFF, 0x12)]) with
    | error e => rw [ht] at hu; cases hu
    | ok r =>
      obtain ⟨c, t⟩ := r
      rw [ht] at hu
      exact ⟨c, t, w, u, rfl, hu⟩

theorem witness_ResetOfEachKind :
    (codeReadWord witVec 0 2 = .ok 0x0302 ∧ witVec.farCode = false ∧ codeReadWord witVec 0 6 = .ok 0x0706) ∧
    ((witVec.setInputs [[.res]]).inputs = [.res] :: [] ∧ pickEvent ((witVec.setInputs [[.res]]).setInputs []) [.res] = some .res ∧
      codeReadWord (witVec.setInputs [[.res]]) 0 0 = .ok 0x0100) ∧
    (pickEvent (witVec.setInputs []) [.nmi, .wdt] = some .wdt ∧ codeReadWord (witVec.setInputs [[.nmi, .wdt]]) 0 4 = .ok 0x0504) := by
  decide +kernel

theorem witness_InterruptEntry :
    (∀ j, j < 5 → PlainWord witVec (witVec.ssp - BitVec.ofNat 16 (2 * j))) ∧
    codeReadWord witVec 0 (BitVec.ofNat 16 (8 + 2 * 32)) = .ok 0x4948 ∧ codeReadWord witVec 0 (BitVec.ofNat 16 (8 + 2 * 0)) = .ok 0x0908 := by
  refine ⟨?_, by decide +kernel, by decide +kernel⟩
  intro k hk
  interval_cases k <;> exact plainWord_iff.2 (by decide +kernel)

theorem witness_RtiResult :
    (let s := put (wit.setSsp 0xFF6) [(0xFF8, 0), (0xFF9, 0x11), (0xFFA, 0x10), (0xFFB, 3), (0xFFC, 0x34), (0xFFD, 0x12),
        (0xFFE, 1), (0xFFF, 1)]
     4 = (if s.farCode then 5 else 4) ∧ (∀ k, 1 ≤ k → k ≤ 4 → PlainWord s (s.ssp + BitVec.ofNat 16 (2 * k))) ∧
      memReadWord s 0 (s.ssp + 2) = .ok 0x1100 ∧ memReadWord s 0 (s.ssp + 4) = .ok 0x310 ∧
      memReadWord s 0 (s.ssp + 6) = .ok 0x1234 ∧ s.farCode = false ∧
      memReadWord s 0 (s.ssp + BitVec.ofNat 16 (2 * 4)) = .ok 0x0101) ∧
    ((∃ u, takeInterrupt witFar 0 = .ok u) ∧ witFar.csr &&& segMask witFar.dev.csrBits = witFar.csr ∧
      ∀ j, j < 5 → PlainWord witFar (witFar.ssp - BitVec.ofNat 16 (2 * j))) := by
  refine ⟨⟨by decide +kernel, ?_, by decide +kernel, by decide +kernel, by decide +kernel, by decide +kernel,
    by decide +kernel⟩, ok_of (by decide +kernel), by decide +kernel, ?_⟩
  · intro k h1 h2
    interval_cases k <;> exact plainWord_iff.2 (by decide +kernel)
  · intro k hk
    interval_cases k <;> exact plainWord_iff.2 (by decide +kernel)

theorem witness_BoundaryEvents :
    (wit.setInputs [[.irq 32]]).inputs = [.irq 32] :: [] ∧
    pickEvent ((wit.setPsw 0x100).setInputs []) [.irq 32] = some (.irq 32) ∧ pickEvent (wit.setInputs []) [.nmi] = some .nmi ∧
    pickEvent (wit.setInputs []) [.setModel .large] = some (.setModel .large) ∧
    pickEvent ({ wit with dev := smallDevice } : State) [.setModel .large] = none ∧
    pickEvent (wit.setInputs []) [.busWrite 0x200 7] = some (.busWrite 0x200 7) ∧
    pickEvent (witSfr.setInputs []) [.busWrite 0x10 7] = some (.busWrite 0x10 7) ∧
    pickEvent (wit.setInputs []) [.busWrite 0x1FF 7] = none ∧
    pickEvent (wit.setInputs []) [.busWrite 0x1000000 7] = none := by decide +kernel

theorem witness_FrameOfMemory :
    shapeOf (.addWFix (.er .er0) 4) = some (.aluMW .add (.er .er0) (.mem (.fix 4))) ∧
    (∃ u, exec (.addWFix (.er .er0) 4) wit = .next u) ∧ 0x3000 ∉ (Shape.aluMW .add (.er .er0) (.mem (.fix 4))).stores wit ∧
    (Shape.aluMW .add (.er .er0) (.mem (.fix 4))).stores wit = [0x280, 0x281] :=
  ⟨by decide +kernel, next_of (by decide +kernel), by decide +kernel, by decide +kernel⟩

theorem witness_FrameOfRegisters :
    shapeOf (.incbB (.r .r7)) = some (.incDecB false (.r .r7)) ∧ (∃ u, exec (.incbB (.r .r7)) wit = .next u) ∧
    (Shape.incDecB false (.r .r7)).toSfr wit = false ∧ (Shape.incDecB false (.r .r7)).toPsw wit = false ∧
    (Shape.incDecB false (.r .r7)).jumps = false ∧ (Shape.incDecB false (.r .r7)).writesA wit = .no ∧
    (Shape.shiftB .sll .acc 1).writesA wit = .low :=
  ⟨by decide +kernel, next_of (by decide +kernel), by decide +kernel, by decide +kernel, by decide +kernel,
    by decide +kernel, by decide +kernel⟩

end Sys2Proof.Tests
end

/-! # What a step keeps, and the phases of an instruction with a shape -/

namespace Sys2Proof.Machine

/- One thread, as in the tests: elaborating beside them would not fit the memory of the check. -/
set_option Elab.async false

/-- What every step keeps: program memory, the device and the invariant (10_state.md R71, R8). -/
structure KeepsCode (s t : State) : Prop where
  prog : t.prog = s.prog
  dev : t.dev = s.dev
  inv : Inv s → Inv t

/-- What every step but a reset and a model setting keeps: the memory model too (10_state.md R66). -/
structure KeepsModel (s t : State) : Prop extends KeepsCode s t where
  model : t.model = s.model
  modelSet : t.modelSet = s.modelSet

/-- What every instruction but the transfers between segments keeps: CSR too (10_state.md R58). -/
structure KeepsCsr (s t : State) : Prop extends KeepsModel s t where
  csr : t.csr = s.csr

theorem KeepsCode.trans {s t u : State} (h : KeepsCode s t) (k : KeepsCode t u) : KeepsCode s u :=
  ⟨k.prog.trans h.prog, k.dev.trans h.dev, fun i => k.inv (h.inv i)⟩

theorem KeepsModel.trans {s t u : State} (h : KeepsModel s t) (k : KeepsModel t u) : KeepsModel s u :=
  ⟨h.toKeepsCode.trans k.toKeepsCode, k.model.trans h.model, k.modelSet.trans h.modelSet⟩

theorem KeepsCsr.trans {s t u : State} (h : KeepsCsr s t) (k : KeepsCsr t u) : KeepsCsr s u :=
  ⟨h.toKeepsModel.trans k.toKeepsModel, k.csr.trans h.csr⟩

theorem KeepsCsr.refl (s : State) : KeepsCsr s s := ⟨⟨⟨rfl, rfl, id⟩, rfl, rfl⟩, rfl⟩

theorem Wrote.keepsCsr {bs : List Nat} {s t : State} (h : Wrote bs s t) : KeepsCsr s t :=
  ⟨⟨⟨h.prog, h.dev, h.inv⟩, h.model, h.modelSet⟩, h.csr⟩

section
variable {s t : State}

theorem KeepsCsr.setA (h : KeepsCsr s t) (v : Word) : KeepsCsr s (t.setA v) :=
  h.trans ⟨⟨⟨rfl, rfl, fun i => i.setA v⟩, rfl, rfl⟩, rfl⟩
theorem KeepsCsr.setPsw (h : KeepsCsr s t) (v : Word) : KeepsCsr s (t.setPsw v) :=
  h.trans ⟨⟨⟨rfl, rfl, fun i => i.setPsw v⟩, rfl, rfl⟩, rfl⟩
theorem KeepsCsr.setLrb (h : KeepsCsr s t) (v : Word) : KeepsCsr s (t.setLrb v) :=
  h.trans ⟨⟨⟨rfl, rfl, fun i => i.setLrb v⟩, rfl, rfl⟩, rfl⟩
theorem KeepsCsr.setPc (h : KeepsCsr s t) (v : Word) : KeepsCsr s (t.setPc v) :=
  h.trans ⟨⟨⟨rfl, rfl, fun i => i.setPc v⟩, rfl, rfl⟩, rfl⟩
theorem KeepsCsr.setDdFetch (h : KeepsCsr s t) (v : Bool) : KeepsCsr s (t.setDdFetch v) :=
  h.trans ⟨⟨⟨rfl, rfl, fun i => i.setDdFetch v⟩, rfl, rfl⟩, rfl⟩
theorem KeepsCsr.draw (h : KeepsCsr s t) (n : Nat) : KeepsCsr s (t.draw n) :=
  h.trans ⟨⟨⟨rfl, rfl, fun i => i.draw n⟩, rfl, rfl⟩, rfl⟩

theorem KeepsModel.setCsr (h : KeepsModel s t) (v : Byte) : KeepsModel s (t.setCsr v) :=
  h.trans ⟨⟨rfl, rfl, fun i => i.setCsr v⟩, rfl, rfl⟩
theorem KeepsModel.setPc (h : KeepsModel s t) (v : Word) : KeepsModel s (t.setPc v) :=
  h.trans ((KeepsCsr.refl t).setPc v).toKeepsModel
theorem KeepsModel.setDdFetch (h : KeepsModel s t) (v : Bool) : KeepsModel s (t.setDdFetch v) :=
  h.trans ((KeepsCsr.refl t).setDdFetch v).toKeepsModel

end

/-! ## Flags as bits of PSW -/

theorem SameBits.refl (ks : List Nat) (p : Word) : SameBits ks p p := fun _ _ => rfl

/-- A bit written inside `ks` leaves the bits outside `ks`. -/
theorem SameBits.putBit {ks : List Nat} {p q : Word} (h : SameBits ks p q) (k : Nat) (b : Bool)
    (hk : k ∈ ks := by simp [Shape.flags]) (hlt : k < 16 := by omega) : SameBits ks p (Machine.putBit q k b) := by
  intro j hj
  have hne : j ≠ k := fun e => hj (e ▸ hk)
  rw [getLsbD_putBit _ _ _ _ hlt, if_neg hne]
  exact h j hj

theorem putArith_sameBits {w : Nat} (p : Word) (o : AluOut w) : SameBits [15, 14, 13, 11, 9] p (Psw.putArith p o) :=
  (((((SameBits.refl _ p).putBit 15 o.c).putBit 14 o.z).putBit 11 o.s).putBit 9 o.ov).putBit
    13 o.hc

theorem putIncDec_sameBits {w : Nat} (p : Word) (o : AluOut w) : SameBits [14, 13, 11, 9] p (Psw.putIncDec p o) :=
  ((((SameBits.refl _ p).putBit 14 o.z).putBit 11 o.s).putBit 9 o.ov).putBit 13 o.hc

theorem putLogic_sameBits {w : Nat} (p : Word) (r : BitVec w) : SameBits [14, 11] p (Psw.putLogic p r) :=
  ((SameBits.refl _ p).putBit 14 _).putBit 11 _

/-- An operation writes no bit of PSW but its own flags (R36). -/
theorem aluRun_sameBits {w : Nat} (op : AluOp) (p : Word) (x y : BitVec w) :
    SameBits (AluOp.flags op) p (aluRun op p x y).2 := by
  cases op with
  | add | adc | sub | sbc | cmp => exact putArith_sameBits p _
  | and | or | xor => exact putLogic_sameBits p _

theorem SameBits.bcb {ks : List Nat} {p q : Word} (h : SameBits ks p q) (h4 : 4 ∉ ks) (h5 : 5 ∉ ks) :
    Psw.bcb q = Psw.bcb p := by
  apply BitVec.eq_of_getLsbD_eq
  intro i hi
  simp only [Psw.bcb, BitVec.getLsbD_extractLsb', hi, decide_true, Bool.true_and]
  rcases (by omega : i = 0 ∨ i = 1) with rfl | rfl
  · exact h 4 h4
  · exact h 5 h5

/-- No shape has a flag below bit 9: BCB and SCB are never among them. -/
theorem Shape.nine_le_of_mem_flags {sh : Shape} {k : Nat} (h : k ∈ sh.flags) : 9 ≤ k := by
  have alu : ∀ op : AluOp, k ∈ AluOp.flags op → 9 ≤ k := by
    intro op hk
    cases op <;> simp [AluOp.flags] at hk <;> omega
  cases sh with
  | aluAW _ op _ | aluAB _ op _ | aluImmW op _ | aluImmB op _ | aluMW op _ _ | aluMB op _ _ => exact alu op h
  | tableW cmp _ _ | tableB cmp _ _ => cases cmp <;> simp [Shape.flags] at h <;> omega
  | _ => simp [Shape.flags] at h <;> omega

/-! ## Locating an operand -/

/-- Finding operands changes data memory alone, and of it the bytes of DP when `moves` says that DP moves. -/
structure Located (moves : Bool) (s t : State) : Prop where
  data : t = s.setData t.data
  wrote : Wrote (if moves then s.dpBytes else []) s t

theorem Located.refl (moves : Bool) (s : State) : Located moves s s := ⟨rfl, Wrote.refl _ s⟩

theorem Located.psw {m : Bool} {s t : State} (h : Located m s t) : t.psw = s.psw := by rw [h.data]; rfl

theorem Located.of_ok {m : Bool} {s t : State} (h : t = s ∨ (m = true ∧ Wrote s.dpBytes s t ∧ t = s.setData t.data)) :
    Located m s t := by
  rcases h with rfl | ⟨rfl, hw, hd⟩
  · exact Located.refl m t
  · exact ⟨hd, hw⟩

/-- Two operands found one after the other; DP stands where it stood. -/
theorem Located.trans {m n : Bool} {s t u : State} (h : Located m s t) (k : Located n t u) : Located (m || n) s u := by
  have hdp : t.dpBytes = s.dpBytes := by rw [h.data]; rfl
  refine ⟨?_, h.wrote.trans k.wrote ?_ ?_⟩
  · rw [k.data, h.data]; rfl
  · cases m <;> simp
  · cases n <;> simp [hdp]

theorem locW_located {p : WOp} {s t : State} {l : Loc} (h : locW p s = .ok (l, t)) : Located (WOp.movesDp p) s t :=
  .of_ok (locW_ok h)
theorem locB_located {p : BOp} {s t : State} {l : Loc} (h : locB p s = .ok (l, t)) : Located (BOp.movesDp p) s t :=
  .of_ok (locB_ok h)
theorem srcLocW_located {q : Src 16} {s t : State} {l : Loc ⊕ Word} (h : srcLocW q s = .ok (l, t)) :
    Located (Src.movesDp q) s t := .of_ok (srcLocW_ok h)
theorem srcLocB_located {q : Src 8} {s t : State} {l : Loc ⊕ Byte} (h : srcLocB q s = .ok (l, t)) :
    Located (Src.movesDp q) s t := .of_ok (srcLocB_ok h)
theorem locBit_located {b : BitOperand} {s t : State} {l : Loc} (h : locBit b s = .ok (l, t)) :
    Located (BitOperand.movesDp b) s t := .of_ok (locBit_ok h)

theorem tableOff_located {p : WOp} {base off : Word} {s t : State} (h : tableOff p base s = .ok (off, t)) :
    Located (WOp.movesDp p) s t := by
  obtain ⟨⟨l, t'⟩, hl, h⟩ := res_bind_ok.mp h
  obtain ⟨v, _, h⟩ := res_bind_ok.mp h
  cases h
  exact locW_located hl

theorem tablePtr_located {p : Option WOp} {base off : Word} {s t : State} (h : tablePtr p base s = .ok (off, t)) :
    Located (p.any WOp.movesDp) s t := by
  cases p with
  | none => cases h; exact Located.refl _ s
  | some p => exact tableOff_located h

/-! ## What an instruction with a shape does -/

/-- The state `w` a shape's store leaves, when the operands are located in `t` and PSW becomes `q` before the store (D11):
no store, or one to the shape's destination. -/
inductive StoredBy (sh : Shape) (s t : State) (q : Word) : State → Prop
  | unstored : StoredBy sh s t q (t.setPsw q)
  | word {l : Loc} {v : Word} {w : State} (hd : sh.dest s = some (true, .ok (l, t)))
      (hw : wrW l v (t.setPsw q) = .ok w) : StoredBy sh s t q w
  | byte {l : Loc} {v : Byte} {w : State} (hd : sh.dest s = some (false, .ok (l, t)))
      (hw : wrB l v (t.setPsw q) = .ok w) : StoredBy sh s t q w

/-- The phases of an instruction with a shape: operands located in `t`, flags `q`, a store that leaves `w`, and then A, PC and
DD_FETCH alone, A and PC as far as the shape writes them. -/
structure Shape.Effect (sh : Shape) (s u t w : State) (q : Word) : Prop where
  located : Located sh.movesDp s t
  flags : SameBits sh.flags t.psw q
  stored : StoredBy sh s t q w
  rest : u = ((w.setA u.a).setPc u.pc).setDdFetch u.ddFetch
  accNo : sh.writesA s = .no → u.a = w.a
  accLow : sh.writesA s = .low → hiByte u.a = hiByte w.a
  pc : sh.jumps = false → u.pc = w.pc

/-- The shape takes `s` to `u` in these phases. -/
def Shape.Acts (sh : Shape) (s u : State) : Prop := ∃ t w q, sh.Effect s u t w q

section
variable {sh : Shape} {s t w u : State} {q : Word} {c d : Bool} {e : Byte} (hl : Located sh.movesDp s t)
  (hf : SameBits sh.flags t.psw q)
include hl hf

/-- A shape that ends with its store. -/
theorem Shape.Acts.ofStore (hs : StoredBy sh s t q w) : sh.Acts s (w.setDdFetch d) :=
  ⟨t, w, q, hl, hf, hs, rfl, fun _ => rfl, fun _ => rfl, fun _ => rfl⟩

/-- A shape that may set PC after its store. -/
theorem Shape.Acts.ofJump (hs : StoredBy sh s t q w) (hj : sh.jumps = true) : sh.Acts s ((w.jumpIf c e).setDdFetch d) := by
  cases c with
  | false => exact Shape.Acts.ofStore hl hf hs
  | true => exact ⟨t, w, q, hl, hf, hs, rfl, fun _ => rfl, fun _ => rfl, fun h => absurd (hj.symm.trans h) (by simp)⟩

/-- A shape that writes all of A after its store. -/
theorem Shape.Acts.ofAcc (hs : StoredBy sh s t q w) (ha : sh.writesA s = .all) (v : Word)
    (hu : u = (w.setA v).setDdFetch d) : sh.Acts s u :=
  hu ▸ ⟨t, w, q, hl, hf, hs, rfl, fun h => absurd (ha.symm.trans h) (by simp), fun h => absurd (ha.symm.trans h) (by simp),
    fun _ => rfl⟩

/-- A shape that writes AL after its store. -/
theorem Shape.Acts.ofAccLow (hs : StoredBy sh s t q w) (ha : sh.writesA s = .low) (v : Byte)
    (hu : u = (w.setA (setLo w.a v)).setDdFetch d) : sh.Acts s u :=
  hu ▸ ⟨t, w, q, hl, hf, hs, rfl, fun h => absurd (ha.symm.trans h) (by simp),
    fun _ => hiByte_mkWord _ _, fun _ => rfl⟩

end

end Sys2Proof.Machine

/-! # The phases of every shape -/

namespace Sys2Proof.Machine

/- One thread, as in the tests: elaborating beside them would not fit the memory of the check. -/
set_option Elab.async false

section
variable {s u : State}

/-! Loads: A or AL, Z and DD. -/

theorem setZ_setDd_sameBits (p : Word) (z d : Bool) : SameBits [14, 12] p (Psw.setDd (Psw.setZ p z) d) :=
  ((SameBits.refl _ p).putBit 14 z).putBit 12 d

theorem loadWord_acts {sh : Shape} {t : State} {v : Word} {d : Bool} (hl : Located sh.movesDp s t)
    (hf : sh.flags = [14, 12]) (ha : sh.writesA s = .all) : sh.Acts s ((t.loadWord v).setDdFetch d) :=
  .ofAcc (w := t.setPsw (Psw.setDd (Psw.setZ t.psw (v == 0)) true)) hl (hf ▸ setZ_setDd_sameBits t.psw _ _) .unstored
    ha v rfl

theorem loadByte_acts {sh : Shape} {t : State} {v : Byte} {d : Bool} (hl : Located sh.movesDp s t)
    (hf : sh.flags = [14, 12]) (ha : sh.writesA s = .low) : sh.Acts s ((t.loadByte v).setDdFetch d) :=
  .ofAccLow (w := t.setPsw (Psw.setDd (Psw.setZ t.psw (v == 0)) false)) hl (hf ▸ setZ_setDd_sameBits t.psw _ _) .unstored
    ha v rfl

theorem loadW_acts {p : WOp} (h : (Shape.loadW p).run s = .next u) : (Shape.loadW p).Acts s u := by
  obtain ⟨r, hr, rfl⟩ := retireSync_next.mp h
  obtain ⟨⟨l, t⟩, hl, hr⟩ := res_bind_ok.mp hr
  obtain ⟨v, _, hr⟩ := res_bind_ok.mp hr
  cases hr
  exact loadWord_acts (locW_located hl) rfl rfl

theorem loadB_acts {p : BOp} (h : (Shape.loadB p).run s = .next u) : (Shape.loadB p).Acts s u := by
  obtain ⟨r, hr, rfl⟩ := retireSync_next.mp h
  obtain ⟨⟨l, t⟩, hl, hr⟩ := res_bind_ok.mp hr
  obtain ⟨v, _, hr⟩ := res_bind_ok.mp hr
  cases hr
  exact loadByte_acts (locB_located hl) rfl rfl

theorem loadImmW_acts {v : Word} (h : (Shape.loadImmW v).run s = .next u) : (Shape.loadImmW v).Acts s u := by
  cases h
  exact loadWord_acts (Located.refl _ s) rfl rfl

theorem loadImmB_acts {v : Byte} (h : (Shape.loadImmB v).run s = .next u) : (Shape.loadImmB v).Acts s u := by
  cases h
  exact loadByte_acts (Located.refl _ s) rfl rfl

/-! Moves, exchanges, shifts, increments: the store to the destination comes last, after the flags. -/

theorem moveW_acts {d p : WOp} (h : (Shape.moveW d p).run s = .next u) : (Shape.moveW d p).Acts s u := by
  obtain ⟨r, hr, rfl⟩ := retire_next.mp h
  obtain ⟨⟨l, t⟩, hl, hr⟩ := res_bind_ok.mp hr
  obtain ⟨⟨m, t'⟩, hm, hr⟩ := res_bind_ok.mp hr
  obtain ⟨v, _, hr⟩ := res_bind_ok.mp hr
  have both := (locW_located hl).trans (locW_located hm)
  rw [Bool.or_comm] at both
  exact .ofStore both (SameBits.refl _ _) (.word (by simp only [Shape.dest, hl, res_ok_bind, hm]) hr)

theorem moveB_acts {d p : BOp} (h : (Shape.moveB d p).run s = .next u) : (Shape.moveB d p).Acts s u := by
  obtain ⟨r, hr, rfl⟩ := retire_next.mp h
  obtain ⟨⟨l, t⟩, hl, hr⟩ := res_bind_ok.mp hr
  obtain ⟨⟨m, t'⟩, hm, hr⟩ := res_bind_ok.mp hr
  obtain ⟨v, _, hr⟩ := res_bind_ok.mp hr
  have both := (locB_located hl).trans (locB_located hm)
  rw [Bool.or_comm] at both
  exact .ofStore both (SameBits.refl _ _) (.byte (by simp only [Shape.dest, hl, res_ok_bind, hm]) hr)

theorem constW_acts {p : WOp} {v : Word} (h : (Shape.constW p v).run s = .next u) : (Shape.constW p v).Acts s u := by
  obtain ⟨r, hr, rfl⟩ := retire_next.mp h
  obtain ⟨⟨l, t⟩, hl, hr⟩ := res_bind_ok.mp hr
  exact .ofStore (locW_located hl) (SameBits.refl _ _) (.word (congrArg (fun r => some (true, r)) hl) hr)

theorem constB_acts {p : BOp} {v : Byte} (h : (Shape.constB p v).run s = .next u) : (Shape.constB p v).Acts s u := by
  obtain ⟨r, hr, rfl⟩ := retire_next.mp h
  obtain ⟨⟨l, t⟩, hl, hr⟩ := res_bind_ok.mp hr
  exact .ofStore (locB_located hl) (SameBits.refl _ _) (.byte (congrArg (fun r => some (false, r)) hl) hr)

theorem exchW_acts {p : WOp} (h : (Shape.exchW p).run s = .next u) : (Shape.exchW p).Acts s u := by
  obtain ⟨r, hr, rfl⟩ := retire_next.mp (classW_next.mp h).2
  obtain ⟨⟨l, t⟩, hl, hr⟩ := res_bind_ok.mp hr
  obtain ⟨v, _, hr⟩ := res_bind_ok.mp hr
  obtain ⟨w, hw, hr⟩ := res_bind_ok.mp hr
  cases hr
  exact .ofAcc (locW_located hl) (SameBits.refl _ _) (.word (congrArg (fun r => some (true, r)) hl) hw) rfl v rfl

theorem exchB_acts {p : BOp} (h : (Shape.exchB p).run s = .next u) : (Shape.exchB p).Acts s u := by
  obtain ⟨r, hr, rfl⟩ := retire_next.mp (classB_next.mp h).2
  obtain ⟨⟨l, t⟩, hl, hr⟩ := res_bind_ok.mp hr
  obtain ⟨v, _, hr⟩ := res_bind_ok.mp hr
  obtain ⟨w, hw, hr⟩ := res_bind_ok.mp hr
  cases hr
  exact .ofAccLow (locB_located hl) (SameBits.refl _ _) (.byte (congrArg (fun r => some (false, r)) hl) hw) rfl v rfl

theorem shiftW_acts {op : ShiftOp} {p : WOp} {n : Nat} (h : (Shape.shiftW op p n).run s = .next u) :
    (Shape.shiftW op p n).Acts s u := by
  obtain ⟨r, hr, rfl⟩ := retire_next.mp h
  obtain ⟨⟨l, t⟩, hl, hr⟩ := res_bind_ok.mp hr
  obtain ⟨x, _, hr⟩ := res_bind_ok.mp hr
  exact .ofStore (locW_located hl) ((SameBits.refl _ _).putBit 15 _) (.word (congrArg (fun r => some (true, r)) hl) hr)

theorem shiftB_acts {op : ShiftOp} {p : BOp} {n : Nat} (h : (Shape.shiftB op p n).run s = .next u) :
    (Shape.shiftB op p n).Acts s u := by
  obtain ⟨r, hr, rfl⟩ := retire_next.mp h
  obtain ⟨⟨l, t⟩, hl, hr⟩ := res_bind_ok.mp hr
  obtain ⟨x, _, hr⟩ := res_bind_ok.mp hr
  exact .ofStore (locB_located hl) ((SameBits.refl _ _).putBit 15 _) (.byte (congrArg (fun r => some (false, r)) hl) hr)

theorem incDecW_acts {dec : Bool} {p : WOp} (h : (Shape.incDecW dec p).run s = .next u) :
    (Shape.incDecW dec p).Acts s u := by
  obtain ⟨r, hr, rfl⟩ := retire_next.mp h
  obtain ⟨⟨l, t⟩, hl, hr⟩ := res_bind_ok.mp hr
  obtain ⟨x, _, hr⟩ := res_bind_ok.mp hr
  exact .ofStore (locW_located hl) (putIncDec_sameBits _ _) (.word (congrArg (fun r => some (true, r)) hl) hr)

theorem incDecB_acts {dec : Bool} {p : BOp} (h : (Shape.incDecB dec p).run s = .next u) :
    (Shape.incDecB dec p).Acts s u := by
  obtain ⟨r, hr, rfl⟩ := retire_next.mp h
  obtain ⟨⟨l, t⟩, hl, hr⟩ := res_bind_ok.mp hr
  obtain ⟨x, _, hr⟩ := res_bind_ok.mp hr
  exact .ofStore (locB_located hl) (putIncDec_sameBits _ _) (.byte (congrArg (fun r => some (false, r)) hl) hr)

/-! The accumulator operations: a comparison writes the flags alone. -/

theorem aluAccW_acts {sh : Shape} {t : State} {op : AluOp} (y : Word) (d : Bool) (hl : Located sh.movesDp s t)
    (hf : sh.flags = AluOp.flags op) (ha : op.writes = true → sh.writesA s = .all) :
    sh.Acts s ((t.aluAccW op y).setDdFetch d) := by
  have flags : SameBits sh.flags t.psw (aluRun op t.psw t.a y).2 := hf ▸ aluRun_sameBits op _ _ _
  unfold State.aluAccW
  by_cases hw : op.writes = true
  · rw [if_pos hw]; exact .ofAcc hl flags .unstored (ha hw) _ rfl
  · rw [if_neg hw]; exact .ofStore hl flags .unstored

theorem aluAccB_acts {sh : Shape} {t : State} {op : AluOp} (y : Byte) (d : Bool) (hl : Located sh.movesDp s t)
    (hf : sh.flags = AluOp.flags op) (ha : op.writes = true → sh.writesA s = .low) :
    sh.Acts s ((t.aluAccB op y).setDdFetch d) := by
  have flags : SameBits sh.flags t.psw (aluRun op t.psw (loByte t.a) y).2 := hf ▸ aluRun_sameBits op _ _ _
  unfold State.aluAccB
  by_cases hw : op.writes = true
  · rw [if_pos hw]; exact .ofAccLow hl flags .unstored (ha hw) _ rfl
  · rw [if_neg hw]; exact .ofStore hl flags .unstored

theorem aluAW_acts {c : Bool} {op : AluOp} {p : WOp} (h : (Shape.aluAW c op p).run s = .next u) :
    (Shape.aluAW c op p).Acts s u := by
  have hrun : aluAW op p s = .next u := by
    cases c with
    | false => exact h
    | true => exact (classW_next.mp h).2
  obtain ⟨r, hr, rfl⟩ := retire_next.mp hrun
  obtain ⟨⟨l, t⟩, hl, hr⟩ := res_bind_ok.mp hr
  obtain ⟨y, _, hr⟩ := res_bind_ok.mp hr
  cases hr
  exact aluAccW_acts y _ (locW_located hl) rfl fun hw => by simp [Shape.writesA, hw]

theorem aluAB_acts {c : Bool} {op : AluOp} {p : BOp} (h : (Shape.aluAB c op p).run s = .next u) :
    (Shape.aluAB c op p).Acts s u := by
  have hrun : aluAB op p s = .next u := by
    cases c with
    | false => exact h
    | true => exact (classB_next.mp h).2
  obtain ⟨r, hr, rfl⟩ := retire_next.mp hrun
  obtain ⟨⟨l, t⟩, hl, hr⟩ := res_bind_ok.mp hr
  obtain ⟨y, _, hr⟩ := res_bind_ok.mp hr
  cases hr
  exact aluAccB_acts y _ (locB_located hl) rfl fun hw => by simp [Shape.writesA, hw]

theorem aluImmW_acts {op : AluOp} {v : Word} (h : (Shape.aluImmW op v).run s = .next u) :
    (Shape.aluImmW op v).Acts s u := by
  cases h
  exact aluAccW_acts v _ (Located.refl _ s) rfl fun hw => by simp [Shape.writesA, hw]

theorem aluImmB_acts {op : AluOp} {v : Byte} (h : (Shape.aluImmB op v).run s = .next u) :
    (Shape.aluImmB op v).Acts s u := by
  cases h
  exact aluAccB_acts v _ (Located.refl _ s) rfl fun hw => by simp [Shape.writesA, hw]

theorem aluMW_acts {op : AluOp} {p : WOp} {q : Src 16} (h : (Shape.aluMW op p q).run s = .next u) :
    (Shape.aluMW op p q).Acts s u := by
  obtain ⟨r, hr, rfl⟩ := retire_next.mp h
  obtain ⟨⟨l, t⟩, hl, hr⟩ := res_bind_ok.mp hr
  obtain ⟨⟨m, t'⟩, hm, hr⟩ := res_bind_ok.mp hr
  obtain ⟨x, _, hr⟩ := res_bind_ok.mp hr
  obtain ⟨y, _, hr⟩ := res_bind_ok.mp hr
  have both := (locW_located hl).trans (srcLocW_located hm)
  have flags := aluRun_sameBits op t'.psw x y
  by_cases hw : op.writes = true
  · exact .ofStore both flags
      (.word (by simp only [Shape.dest, hw, if_true, hl, res_ok_bind, hm, res_pure]) ((if_pos hw).symm.trans hr))
  · cases (if_neg hw).symm.trans hr
    exact .ofStore both flags .unstored

theorem aluMB_acts {op : AluOp} {p : BOp} {q : Src 8} (h : (Shape.aluMB op p q).run s = .next u) :
    (Shape.aluMB op p q).Acts s u := by
  obtain ⟨r, hr, rfl⟩ := retire_next.mp h
  obtain ⟨⟨l, t⟩, hl, hr⟩ := res_bind_ok.mp hr
  obtain ⟨⟨m, t'⟩, hm, hr⟩ := res_bind_ok.mp hr
  obtain ⟨x, _, hr⟩ := res_bind_ok.mp hr
  obtain ⟨y, _, hr⟩ := res_bind_ok.mp hr
  have both := (locB_located hl).trans (srcLocB_located hm)
  have flags := aluRun_sameBits op t'.psw x y
  by_cases hw : op.writes = true
  · exact .ofStore both flags
      (.byte (by simp only [Shape.dest, hw, if_true, hl, res_ok_bind, hm, res_pure]) ((if_pos hw).symm.trans hr))
  · cases (if_neg hw).symm.trans hr
    exact .ofStore both flags .unstored

/-! ROM table references. -/

theorem tableW_acts {cmp : Bool} {p : Option WOp} {base : Word} (h : (Shape.tableW cmp p base).run s = .next u) :
    (Shape.tableW cmp p base).Acts s u := by
  obtain ⟨r, hr, rfl⟩ := retire_next.mp h
  obtain ⟨⟨off, t⟩, hl, hr⟩ := res_bind_ok.mp hr
  cases cmp with
  | true =>
    obtain ⟨v, _, hr⟩ := res_bind_ok.mp hr
    cases hr
    exact aluAccW_acts (op := .cmp) v _ (tablePtr_located hl) rfl nofun
  | false =>
    obtain ⟨v, _, hr⟩ := res_bind_ok.mp hr
    cases hr
    exact .ofAcc (w := t.setPsw (Psw.setZ t.psw (v == 0))) (tablePtr_located hl) ((SameBits.refl _ _).putBit 14 _)
      .unstored rfl v rfl

theorem tableB_acts {cmp : Bool} {p : Option WOp} {base : Word} (h : (Shape.tableB cmp p base).run s = .next u) :
    (Shape.tableB cmp p base).Acts s u := by
  obtain ⟨r, hr, rfl⟩ := retire_next.mp h
  obtain ⟨⟨off, t⟩, hl, hr⟩ := res_bind_ok.mp hr
  cases cmp with
  | true =>
    obtain ⟨v, _, hr⟩ := res_bind_ok.mp hr
    cases hr
    exact aluAccB_acts (op := .cmp) v _ (tablePtr_located hl) rfl nofun
  | false =>
    obtain ⟨v, _, hr⟩ := res_bind_ok.mp hr
    cases hr
    exact .ofAccLow (w := t.setPsw (Psw.setZ t.psw (v == 0))) (tablePtr_located hl) ((SameBits.refl _ _).putBit 14 _)
      .unstored rfl v rfl

/-! Bit instructions. -/

theorem bitSet_acts {v : Bool} {b : BitOperand} {bit : Fin 8} (h : (Shape.bitSet v b bit).run s = .next u) :
    (Shape.bitSet v b bit).Acts s u := by
  obtain ⟨r, hr, rfl⟩ := retire_next.mp h
  obtain ⟨⟨l, t⟩, hl, hr⟩ := res_bind_ok.mp hr
  obtain ⟨x, _, hr⟩ := res_bind_ok.mp hr
  exact .ofStore (locBit_located hl) ((SameBits.refl _ _).putBit 14 _) (.byte (congrArg (fun r => some (false, r)) hl) hr)

theorem bitCarry_acts {op : CarryOp} {p : BOp} {bit : Fin 8} (h : (Shape.bitCarry op p bit).run s = .next u) :
    (Shape.bitCarry op p bit).Acts s u := by
  obtain ⟨r, hr, rfl⟩ := retire_next.mp h
  obtain ⟨⟨l, t⟩, hl, hr⟩ := res_bind_ok.mp hr
  obtain ⟨x, _, hr⟩ := res_bind_ok.mp hr
  cases hr
  exact .ofStore (locB_located hl) ((SameBits.refl _ _).putBit 15 _) .unstored

theorem bitFromC_acts {p : BOp} {bit : Fin 8} (h : (Shape.bitFromC p bit).run s = .next u) :
    (Shape.bitFromC p bit).Acts s u := by
  obtain ⟨r, hr, rfl⟩ := retire_next.mp h
  obtain ⟨⟨l, t⟩, hl, hr⟩ := res_bind_ok.mp hr
  obtain ⟨x, _, hr⟩ := res_bind_ok.mp hr
  exact .ofStore (locB_located hl) (SameBits.refl _ _) (.byte (congrArg (fun r => some (false, r)) hl) hr)

theorem blockSet_acts {v : Bool} {p : BOp} (h : (Shape.blockSet v p).run s = .next u) :
    (Shape.blockSet v p).Acts s u := by
  obtain ⟨r, hr, rfl⟩ := retire_next.mp h
  obtain ⟨⟨l, t⟩, hl, hr⟩ := res_bind_ok.mp hr
  obtain ⟨x, _, hr⟩ := res_bind_ok.mp hr
  exact .ofStore (locB_located hl) ((SameBits.refl _ _).putBit 14 _)
    (.byte (by simp only [Shape.dest, hl, res_ok_bind, res_pure]) hr)

theorem blockTest_acts {p : BOp} (h : (Shape.blockTest p).run s = .next u) : (Shape.blockTest p).Acts s u := by
  obtain ⟨r, hr, rfl⟩ := retire_next.mp h
  obtain ⟨⟨l, t⟩, hl, hr⟩ := res_bind_ok.mp hr
  obtain ⟨x, _, hr⟩ := res_bind_ok.mp hr
  cases hr
  exact .ofStore (locB_located hl) ((SameBits.refl _ _).putBit 14 _) .unstored

theorem blockCarry_acts {p : BOp} (h : (Shape.blockCarry p).run s = .next u) : (Shape.blockCarry p).Acts s u := by
  obtain ⟨r, hr, rfl⟩ := retire_next.mp h
  obtain ⟨⟨l, t⟩, hl, hr⟩ := res_bind_ok.mp hr
  obtain ⟨x, _, hr⟩ := res_bind_ok.mp hr
  cases hr
  exact .ofStore (locB_located hl) ((SameBits.refl _ _).putBit 15 _) .unstored

theorem blockFromC_acts {p : BOp} (h : (Shape.blockFromC p).run s = .next u) : (Shape.blockFromC p).Acts s u := by
  obtain ⟨r, hr, rfl⟩ := retire_next.mp h
  obtain ⟨⟨l, t⟩, hl, hr⟩ := res_bind_ok.mp hr
  obtain ⟨x, _, hr⟩ := res_bind_ok.mp hr
  exact .ofStore (locB_located hl) (SameBits.refl _ _)
    (.byte (by simp only [Shape.dest, hl, res_ok_bind, res_pure]) hr)

/-! Jumps on a bit, on an operand or on the flags. -/

theorem jumpBit_acts {want : Bool} {b : BitOperand} {bit : Fin 8} {d : Byte}
    (h : (Shape.jumpBit want b bit d).run s = .next u) : (Shape.jumpBit want b bit d).Acts s u := by
  obtain ⟨r, hr, rfl⟩ := retire_next.mp h
  obtain ⟨⟨l, t⟩, hl, hr⟩ := res_bind_ok.mp hr
  obtain ⟨x, _, hr⟩ := res_bind_ok.mp hr
  cases hr
  exact .ofJump (locBit_located hl) (SameBits.refl _ _) .unstored rfl

theorem jumpFlip_acts {want : Bool} {p : BOp} {bit : Fin 8} {d : Byte}
    (h : (Shape.jumpFlip want p bit d).run s = .next u) : (Shape.jumpFlip want p bit d).Acts s u := by
  obtain ⟨r, hr, rfl⟩ := retire_next.mp h
  obtain ⟨⟨l, t⟩, hl, hr⟩ := res_bind_ok.mp hr
  obtain ⟨x, _, hr⟩ := res_bind_ok.mp hr
  by_cases taken : (x.getLsbD bit.val == want) = true
  · rw [if_pos taken] at hr
    obtain ⟨w, hw, hr⟩ := res_bind_ok.mp hr
    cases hr
    exact .ofJump (locB_located hl) (SameBits.refl _ _) (.byte (congrArg (fun r => some (false, r)) hl) hw) rfl (c := true)
  · rw [if_neg taken] at hr
    cases hr
    exact .ofStore (locB_located hl) (SameBits.refl _ _) .unstored

theorem testW_acts {zero : Bool} {p : WOp} {d : Byte} (h : (Shape.testW zero p d).run s = .next u) :
    (Shape.testW zero p d).Acts s u := by
  obtain ⟨r, hr, rfl⟩ := retire_next.mp h
  obtain ⟨⟨l, t⟩, hl, hr⟩ := res_bind_ok.mp hr
  obtain ⟨v, _, hr⟩ := res_bind_ok.mp hr
  cases hr
  exact .ofJump (locW_located hl) (SameBits.refl _ _) .unstored rfl

theorem testB_acts {zero : Bool} {p : BOp} {d : Byte} (h : (Shape.testB zero p d).run s = .next u) :
    (Shape.testB zero p d).Acts s u := by
  obtain ⟨r, hr, rfl⟩ := retire_next.mp h
  obtain ⟨⟨l, t⟩, hl, hr⟩ := res_bind_ok.mp hr
  obtain ⟨v, _, hr⟩ := res_bind_ok.mp hr
  cases hr
  exact .ofJump (locB_located hl) (SameBits.refl _ _) .unstored rfl

theorem cond_acts {cc : Cond} {d : Byte} (h : (Shape.cond cc d).run s = .next u) : (Shape.cond cc d).Acts s u := by
  cases h
  exact .ofJump (Located.refl _ s) (SameBits.refl _ _) .unstored rfl

/-- Every shape acts in the phases of `Shape.Effect`. -/
theorem Shape.run_acts {sh : Shape} (h : sh.run s = .next u) : sh.Acts s u := by
  cases sh with
  | loadW p => exact loadW_acts h
  | loadB p => exact loadB_acts h
  | loadImmW v => exact loadImmW_acts h
  | loadImmB v => exact loadImmB_acts h
  | moveW d p => exact moveW_acts h
  | moveB d p => exact moveB_acts h
  | constW p v => exact constW_acts h
  | constB p v => exact constB_acts h
  | exchW p => exact exchW_acts h
  | exchB p => exact exchB_acts h
  | shiftW op p n => exact shiftW_acts h
  | shiftB op p n => exact shiftB_acts h
  | incDecW dec p => exact incDecW_acts h
  | incDecB dec p => exact incDecB_acts h
  | aluAW c op p => exact aluAW_acts h
  | aluAB c op p => exact aluAB_acts h
  | aluImmW op v => exact aluImmW_acts h
  | aluImmB op v => exact aluImmB_acts h
  | aluMW op p q => exact aluMW_acts h
  | aluMB op p q => exact aluMB_acts h
  | tableW cmp p base => exact tableW_acts h
  | tableB cmp p base => exact tableB_acts h
  | bitSet v b bit => exact bitSet_acts h
  | bitCarry op p bit => exact bitCarry_acts h
  | bitFromC p bit => exact bitFromC_acts h
  | blockSet v p => exact blockSet_acts h
  | blockTest p => exact blockTest_acts h
  | blockCarry p => exact blockCarry_acts h
  | blockFromC p => exact blockFromC_acts h
  | jumpBit want b bit d => exact jumpBit_acts h
  | jumpFlip want p bit d => exact jumpFlip_acts h
  | testW zero p d => exact testW_acts h
  | testB zero p d => exact testB_acts h
  | cond cc d => exact cond_acts h

end

end Sys2Proof.Machine

/-! # What each operation keeps -/

namespace Sys2Proof.Machine

/- One thread, as in the tests: elaborating beside them would not fit the memory of the check. -/
set_option Elab.async false

/-! ## What the instructions keep -/

section
variable {s t u w : State}

theorem Located.keepsCsr {m : Bool} (h : Located m s t) : KeepsCsr s t := h.wrote.keepsCsr

theorem StoredBy.keepsCsr {sh : Shape} {q : Word} (h : StoredBy sh s t q w) : KeepsCsr t w := by
  have flags : KeepsCsr t (t.setPsw q) := (KeepsCsr.refl t).setPsw q
  cases h with
  | unstored => exact flags
  | word _ hw => exact flags.trans (wrW_wrote hw).keepsCsr
  | byte _ hw => exact flags.trans (wrB_wrote hw).keepsCsr

theorem Shape.Acts.keepsCsr {sh : Shape} (h : sh.Acts s u) : KeepsCsr s u := by
  obtain ⟨t, w, q, e⟩ := h
  rw [e.rest]
  exact (((e.located.keepsCsr.trans e.stored.keepsCsr).setA _).setPc _).setDdFetch _

theorem exec_shape_keepsCsr {i : Instr} {sh : Shape} (hs : shapeOf i = some sh) (h : exec i s = .next u) : KeepsCsr s u :=
  (Shape.run_acts ((exec_shape s hs).symm.trans h)).keepsCsr

/-- An instruction keeps what its operation keeps. -/
theorem retire_keepsCsr {r : Res State} (h : retire s r = .next u) (hr : ∀ t, r = .ok t → KeepsCsr s t) :
    KeepsCsr s u := by
  obtain ⟨t, ht, rfl⟩ := retire_next.mp h
  exact (hr t ht).setDdFetch _

theorem retireSync_keepsCsr {r : Res State} (h : retireSync r = .next u) (hr : ∀ t, r = .ok t → KeepsCsr s t) :
    KeepsCsr s u := by
  obtain ⟨t, ht, rfl⟩ := retireSync_next.mp h
  exact (hr t ht).setDdFetch _

/-! The stack. -/

theorem push16_keepsCsr {v : Word} (h : push16 s v = .ok t) : KeepsCsr s t := (push16_wrote h).keepsCsr

theorem pop16_keepsCsr {v : Word} (h : pop16 s = .ok (v, t)) : KeepsCsr s t := (pop16_wrote h).keepsCsr

theorem pushEach_keepsCsr {l : List (Bool × (State → Res Word))} (h : pushEach l s = .ok u) : KeepsCsr s u := by
  induction l generalizing s with
  | nil => cases h; exact KeepsCsr.refl _
  | cons e l ih =>
    obtain ⟨named, value⟩ := e
    cases named with
    | false => exact ih h
    | true =>
      obtain ⟨w, r, _, hr, h⟩ := pushEach_named.mp h
      exact (push16_keepsCsr hr).trans (ih h)

/-- A register popped into is written before the registers after it. -/
theorem popEach_named {f : Word → State → Res State} {l : List (Bool × (Word → State → Res State))} :
    popEach ((true, f) :: l) s = .ok u ↔ ∃ v r t, pop16 s = .ok (v, r) ∧ f v r = .ok t ∧ popEach l t = .ok u := by
  simp only [popEach, if_true, res_bind_ok, Prod.exists]
  constructor
  · rintro ⟨v, r, hr, t, ht, h⟩; exact ⟨v, r, t, hr, ht, h⟩
  · rintro ⟨v, r, t, hr, ht, h⟩; exact ⟨v, r, hr, t, ht, h⟩

theorem popEach_keepsCsr {l : List (Bool × (Word → State → Res State))}
    (hl : ∀ e ∈ l, ∀ v r t, e.2 v r = .ok t → KeepsCsr r t) (h : popEach l s = .ok u) : KeepsCsr s u := by
  induction l generalizing s with
  | nil => cases h; exact KeepsCsr.refl _
  | cons e l ih =>
    have later : ∀ r, popEach l r = .ok u → KeepsCsr r u := fun r => ih fun e he => hl e (List.mem_cons_of_mem _ he)
    obtain ⟨named, f⟩ := e
    cases named with
    | false => exact later s h
    | true =>
      obtain ⟨v, r, t, hr, ht, h⟩ := popEach_named.mp h
      exact ((pop16_keepsCsr hr).trans (hl _ List.mem_cons_self v r t ht)).trans (later t h)

/-- What a popped word is written to: a word of data memory, PSW, LRB or A. -/
theorem popOrder_keepsCsr {l : RegList} : ∀ e ∈ popOrder l s, ∀ v r t, e.2 v r = .ok t → KeepsCsr r t := by
  have store (off : Word) : ∀ v r t, memWriteWord r 0 off v = .ok t → KeepsCsr r t :=
    fun _ _ _ h => (memWriteWord_wrote h).keepsCsr
  intro e he
  cases l with
  | er e0 e1 e2 e3 =>
    simp only [popOrder, List.mem_cons, List.not_mem_nil, or_false] at he
    obtain rfl | rfl | rfl | rfl := he <;> exact store _
  | pr x1 x2 dp usp =>
    simp only [popOrder, List.mem_cons, List.not_mem_nil, or_false] at he
    obtain rfl | rfl | rfl | rfl := he <;> exact store _
  | cr a lrb psw =>
    simp only [popOrder, List.mem_cons, List.not_mem_nil, or_false] at he
    obtain rfl | rfl | rfl := he
    · rintro v r _ ⟨⟩; exact (KeepsCsr.refl r).setPsw v
    · rintro v r _ ⟨⟩; exact (KeepsCsr.refl r).setLrb v
    · rintro v r _ ⟨⟩; exact (KeepsCsr.refl r).setA v

theorem execPops_keepsCsr {l : RegList} (h : execPops l s = .next u) : KeepsCsr s u := by
  unfold execPops at h
  split at h
  · obtain ⟨t, ht, rfl⟩ := retireDraw_next.mp h
    exact ((popEach_keepsCsr popOrder_keepsCsr ht).draw 1).setDdFetch _
  · exact retire_keepsCsr h fun t ht => popEach_keepsCsr popOrder_keepsCsr ht

theorem callNear_keepsCsr {v : Word} (h : callNear v s = .ok t) : KeepsCsr s t := by
  obtain ⟨r, hr, h⟩ := res_bind_ok.mp h
  cases h
  exact (push16_keepsCsr hr).setPc v

/-! Multiplication and division. -/

theorem erWrite_keepsCsr {n : ER} {v : Word} (h : erWrite s n v = .ok t) : KeepsCsr s t := (memWriteWord_wrote h).keepsCsr

theorem rWrite_keepsCsr {n : R8} {v : Byte} (h : rWrite s n v = .ok t) : KeepsCsr s t := (memWriteByte_wrote h).keepsCsr

/-- A and PSW are written before the registers a product or a quotient goes to. -/
theorem setA_setPsw_keepsCsr (s : State) (a p : Word) : KeepsCsr s ((s.setA a).setPsw p) :=
  ((KeepsCsr.refl s).setA a).setPsw p

theorem mulWord_keepsCsr {m : Word} (h : s.mulWord m = .ok t) : KeepsCsr s t :=
  (setA_setPsw_keepsCsr s _ _).trans (erWrite_keepsCsr h)

theorem divWord_keepsCsr {d : Word} (h : s.divWord d = .ok t) : KeepsCsr s t := by
  obtain ⟨lo, _, h⟩ := res_bind_ok.mp h
  split at h
  · obtain ⟨r, hr, h⟩ := res_bind_ok.mp h
    obtain ⟨v, hv, h⟩ := res_bind_ok.mp h
    cases h
    exact (((setA_setPsw_keepsCsr s _ _).trans (erWrite_keepsCsr hr)).trans (erWrite_keepsCsr hv)).draw 3
  · obtain ⟨r, hr, h⟩ := res_bind_ok.mp h
    exact ((setA_setPsw_keepsCsr s _ _).trans (erWrite_keepsCsr hr)).trans (erWrite_keepsCsr h)

theorem divByte_keepsCsr {d : Byte} (h : s.divByte d = .ok t) : KeepsCsr s t := by
  unfold State.divByte at h
  split at h
  · obtain ⟨r, hr, h⟩ := res_bind_ok.mp h
    cases h
    exact ((setA_setPsw_keepsCsr s _ _).trans (rWrite_keepsCsr hr)).draw 1
  · exact (setA_setPsw_keepsCsr s _ _).trans (rWrite_keepsCsr h)

theorem divQuick_keepsCsr {d : Word} (h : s.divQuick d = .ok t) : KeepsCsr s t := by
  obtain ⟨lo, _, h⟩ := res_bind_ok.mp h
  dsimp only at h
  split at h
  · obtain ⟨r, hr, h⟩ := res_bind_ok.mp h
    cases h
    exact ((setA_setPsw_keepsCsr s _ _).trans (erWrite_keepsCsr hr)).draw 2
  · split at h
    · obtain ⟨r, hr, h⟩ := res_bind_ok.mp h
      cases h
      exact ((setA_setPsw_keepsCsr s _ _).trans (erWrite_keepsCsr hr)).draw 2
    · exact (setA_setPsw_keepsCsr s _ _).trans (erWrite_keepsCsr h)

/-! A word or byte operand read, then an operation on its value. -/

theorem onWord_keepsCsr {p : WOp} {k : State → Word → Res State} (hk : ∀ {t v u}, k t v = .ok u → KeepsCsr t u)
    (h : (do let (l, t) ← locW p s; let v ← rdW l t; k t v) = .ok u) : KeepsCsr s u := by
  obtain ⟨⟨l, t⟩, hl, h⟩ := res_bind_ok.mp h
  obtain ⟨v, _, h⟩ := res_bind_ok.mp h
  exact (locW_located hl).keepsCsr.trans (hk h)

theorem onByte_keepsCsr {p : BOp} {k : State → Byte → Res State} (hk : ∀ {t v u}, k t v = .ok u → KeepsCsr t u)
    (h : (do let (l, t) ← locB p s; let v ← rdB l t; k t v) = .ok u) : KeepsCsr s u := by
  obtain ⟨⟨l, t⟩, hl, h⟩ := res_bind_ok.mp h
  obtain ⟨v, _, h⟩ := res_bind_ok.mp h
  exact (locB_located hl).keepsCsr.trans (hk h)

theorem decJump_keepsCsr {l : Loc} {target : State → Word} (h : decJump l target s = .ok t) : KeepsCsr s t := by
  obtain ⟨b, _, h⟩ := res_bind_ok.mp h
  obtain ⟨w, hw, h⟩ := res_bind_ok.mp h
  have stored := (wrB_wrote hw).keepsCsr
  split at h <;> cases h
  · exact stored
  · exact stored.setPc _

theorem execDjnzB_keepsCsr {p : BOp} {d : Byte} (h : execDjnzB p d s = .next u) : KeepsCsr s u := by
  refine retire_keepsCsr h fun t ht => ?_
  obtain ⟨⟨l, r⟩, hl, ht⟩ := res_bind_ok.mp ht
  exact (locB_located hl).keepsCsr.trans (decJump_keepsCsr ht)

theorem execRt_keepsCsr (h : execRt s = .next u) : KeepsCsr s u := by
  refine retire_keepsCsr h fun t ht => ?_
  obtain ⟨⟨v, r⟩, hr, ht⟩ := res_bind_ok.mp ht
  cases ht
  exact (pop16_keepsCsr hr).setPc v

/-! The transfers between segments: CSR may change, the model does not. -/

theorem pushFar_keepsModel (h : pushFar s = .ok t) : KeepsModel s t := by
  obtain ⟨r, hr, h⟩ := res_bind_ok.mp h
  exact ((push16_keepsCsr hr).trans (push16_keepsCsr h)).toKeepsModel

theorem retire_keepsModel {r : Res State} (h : retire s r = .next u) (hr : ∀ t, r = .ok t → KeepsModel s t) :
    KeepsModel s u := by
  obtain ⟨t, ht, rfl⟩ := retire_next.mp h
  exact (hr t ht).setDdFetch _

theorem execVcal_keepsModel {v : Fin 16} (h : execVcal v s = .next u) : KeepsModel s u := by
  refine retire_keepsModel h fun t ht => ?_
  split at ht
  · obtain ⟨r, hr, ht⟩ := res_bind_ok.mp ht
    obtain ⟨x, _, ht⟩ := res_bind_ok.mp ht
    cases ht
    exact ((pushFar_keepsModel hr).setCsr 0).setPc x
  · obtain ⟨r, hr, ht⟩ := res_bind_ok.mp ht
    obtain ⟨x, _, ht⟩ := res_bind_ok.mp ht
    cases ht
    exact (push16_keepsCsr hr).toKeepsModel.setPc x

theorem popCsrIfFar_keepsModel (h : popCsrIfFar s = .ok t) : KeepsModel s t := by
  unfold popCsrIfFar at h
  split at h
  · obtain ⟨⟨c, r⟩, hr, h⟩ := res_bind_ok.mp h
    cases h
    exact (pop16_keepsCsr hr).toKeepsModel.setCsr _
  · cases h; exact (KeepsCsr.refl s).toKeepsModel

theorem returnFromInterrupt_keepsModel (h : returnFromInterrupt s = .ok u) : KeepsModel s u := by
  obtain ⟨⟨p, s1⟩, h1, h⟩ := res_bind_ok.mp h
  obtain ⟨⟨l, s2⟩, h2, h⟩ := res_bind_ok.mp h
  obtain ⟨⟨a, s3⟩, h3, h⟩ := res_bind_ok.mp h
  obtain ⟨s4, h4, h⟩ := res_bind_ok.mp h
  obtain ⟨⟨pc, s5⟩, h5, h⟩ := res_bind_ok.mp h
  cases h
  have toA : KeepsCsr s (s3.setA a) :=
    ((((pop16_keepsCsr h1).setPsw p).trans (pop16_keepsCsr h2)).setLrb l |>.trans (pop16_keepsCsr h3)).setA a
  exact ((toA.toKeepsModel.trans (popCsrIfFar_keepsModel h4)).trans (pop16_keepsCsr h5).toKeepsModel).setPc pc

theorem execRti_keepsModel (h : execRti s = .next u) : KeepsModel s u := by
  obtain ⟨t, ht, rfl⟩ := retireSync_next.mp h
  exact (returnFromInterrupt_keepsModel ht).setDdFetch _

/-! The resets: program memory, the device and the invariant stay. -/

theorem systemReset_keepsCode (s : State) (keep : Bool) : KeepsCode s (systemReset s keep) where
  prog := rfl
  dev := rfl
  inv i :=
    { dataWf := by
        cases keep with
        | true => exact i.dataWf
        | false => exact Memory.wf_nil dataDefault
      progWf := i.progWf
      csrBits := BitVec.zero_and
      tsrBits := BitVec.zero_and
      dsrBits := BitVec.zero_and
      romwinShut := fun _ => rfl
      modelSmall := fun _ => rfl
      modelPermitted := fun h => absurd h Bool.false_ne_true }

theorem takeReset_keepsCode {keep : Bool} {vector : Word} (h : takeReset s keep vector = .ok t) : KeepsCode s t := by
  obtain ⟨pc, _, h⟩ := res_bind_ok.mp h
  cases h
  exact (systemReset_keepsCode s keep).trans ((KeepsCsr.refl _).setPc pc).toKeepsCode

theorem retireSync_keepsCode {r : Res State} (h : retireSync r = .next u) (hr : ∀ t, r = .ok t → KeepsCode s t) :
    KeepsCode s u := by
  obtain ⟨t, ht, rfl⟩ := retireSync_next.mp h
  exact (hr t ht).trans ((KeepsCsr.refl t).setDdFetch _).toKeepsCode

theorem execBrk_keepsCode (h : execBrk s = .next u) : KeepsCode s u :=
  retireSync_keepsCode h fun _ => takeReset_keepsCode

/-! FCAL, FJ and FRT: a transfer under the medium and large models, the op-code trap under the others (R504). -/

theorem farOnly_keepsCode {k : Host.Outcome State Fault Refusal} (h : farOnly s k = .next u)
    (hk : k = .next u → KeepsModel s u) : KeepsCode s u ∧ (s.farCode = true → KeepsModel s u) := by
  unfold farOnly at h
  split at h
  · exact ⟨(hk h).toKeepsCode, fun _ => hk h⟩
  · next near => exact ⟨retireSync_keepsCode h fun _ => takeReset_keepsCode, fun far => absurd far near⟩

theorem execFcal_keepsCode {seg : Byte} {x : Word} (h : execFcal seg x s = .next u) :
    KeepsCode s u ∧ (s.farCode = true → KeepsModel s u) := by
  refine farOnly_keepsCode h fun h => retire_keepsModel h fun t ht => ?_
  obtain ⟨r, hr, ht⟩ := res_bind_ok.mp ht
  cases ht
  exact ((pushFar_keepsModel hr).setCsr seg).setPc x

theorem execFj_keepsCode {seg : Byte} {x : Word} (h : execFj seg x s = .next u) :
    KeepsCode s u ∧ (s.farCode = true → KeepsModel s u) := by
  refine farOnly_keepsCode h fun h => retire_keepsModel h fun t ht => ?_
  cases ht
  exact ((KeepsCsr.refl s).toKeepsModel.setCsr seg).setPc x

theorem execFrt_keepsCode (h : execFrt s = .next u) : KeepsCode s u ∧ (s.farCode = true → KeepsModel s u) := by
  refine farOnly_keepsCode h fun h => retire_keepsModel h fun t ht => ?_
  obtain ⟨⟨c, r⟩, hr, ht⟩ := res_bind_ok.mp ht
  obtain ⟨⟨x, r'⟩, hr', ht⟩ := res_bind_ok.mp ht
  cases ht
  exact (((pop16_keepsCsr hr).toKeepsModel.setCsr _).trans (pop16_keepsCsr hr').toKeepsModel).setPc x

/-- The instructions that load CSR: the far ones, VCAL, RTI and BRK (R451). -/
def LoadsCsr (i : Instr) : Prop :=
  (∃ v, i = .vcal v) ∨ (∃ seg w, i = .fcal seg w) ∨ (∃ seg w, i = .fj seg w) ∨ i = .frt ∨ i = .rti ∨ i = .brk

end

end Sys2Proof.Machine

/-! # What every instruction and every step keeps -/

namespace Sys2Proof.Machine

/- One thread, as in the tests: elaborating beside them would not fit the memory of the check. -/
set_option Elab.async false

section
variable {s t u : State} {i : Instr}

/-- The instructions without a shape, one by one: each runs operations that keep CSR, the unlisted ones answer no state. -/
theorem exec_unshaped_keepsCsr (hs : shapeOf i = none) (hc : ¬ LoadsCsr i) (h : exec i s = .next u) : KeepsCsr s u := by
  have kept := KeepsCsr.refl s
  cases i
  all_goals cases hs
  case vcal v => exact absurd (.inl ⟨v, rfl⟩) hc
  case fcal seg w => exact absurd (.inr (.inl ⟨seg, w, rfl⟩)) hc
  case fj seg w => exact absurd (.inr (.inr (.inl ⟨seg, w, rfl⟩))) hc
  case frt => exact absurd (.inr (.inr (.inr (.inl rfl)))) hc
  case rti => exact absurd (.inr (.inr (.inr (.inr (.inl rfl))))) hc
  case brk => exact absurd (.inr (.inr (.inr (.inr (.inr rfl))))) hc
  case pushsA => exact retire_keepsCsr h fun _ => push16_keepsCsr
  case pushs l => exact retire_keepsCsr h fun _ => pushEach_keepsCsr
  case pops l => exact execPops_keepsCsr h
  case mulW p => exact retire_keepsCsr h fun _ => onWord_keepsCsr mulWord_keepsCsr
  case sqrA => exact retire_keepsCsr h fun _ => mulWord_keepsCsr
  case mulbB p =>
    refine retire_keepsCsr h fun _ => onByte_keepsCsr (k := fun t v => .ok (t.mulByte v)) fun {t v u} hu => ?_
    cases hu
    exact setA_setPsw_keepsCsr t _ _
  case divW p => exact retire_keepsCsr h fun _ => onWord_keepsCsr divWord_keepsCsr
  case divbB p => exact retire_keepsCsr h fun _ => onByte_keepsCsr divByte_keepsCsr
  case divqW p => exact retire_keepsCsr h fun _ => onWord_keepsCsr divQuick_keepsCsr
  case djnzR4 d | djnzR5 d | djnzPrL n d | jrnzDp d => exact retire_keepsCsr h fun _ => decJump_keepsCsr
  case djnzB p d => exact execDjnzB_keepsCsr h
  case jInd p =>
    refine retire_keepsCsr h fun _ => onWord_keepsCsr (k := fun t v => .ok (t.setPc v)) fun {t v u} hu => ?_
    cases hu
    exact (KeepsCsr.refl t).setPc v
  case calInd p => exact retire_keepsCsr h fun _ => onWord_keepsCsr (k := fun t v => callNear v t) callNear_keepsCsr
  case calCadr w | scalCadr w | acal a lo => exact retire_keepsCsr h fun _ => callNear_keepsCsr
  case rt => exact execRt_keepsCsr h
  case swap => cases h; exact (kept.setA _).setDdFetch _
  case negA | negbA | sqrbA | extnd => cases h; exact (setA_setPsw_keepsCsr s _ _).setDdFetch _
  case sj d | jCadr w => cases h; exact (kept.setPc _).setDdFetch _
  case sc | rc | cplC | sdd | rdd | ei | di => cases h; exact (kept.setPsw _).setDdFetch _
  case nop => cases h; exact kept.setDdFetch _
  all_goals cases h

/-- Every instruction but those that load CSR keeps it. -/
theorem exec_keepsCsr (hc : ¬ LoadsCsr i) (h : exec i s = .next u) : KeepsCsr s u := by
  cases hs : shapeOf i with
  | some sh => exact exec_shape_keepsCsr hs h
  | none => exact exec_unshaped_keepsCsr hs hc h

/-- The instructions that are a reset: BRK, and the far ones where they are the op-code trap (R502, R504). -/
def IsResetInstr (s : State) (i : Instr) : Prop :=
  i = .brk ∨ (s.farCode = false ∧ ((∃ seg w, i = .fcal seg w) ∨ (∃ seg w, i = .fj seg w) ∨ i = .frt))

/-- Every instruction but a reset keeps the memory model. -/
theorem exec_keepsModel (hr : ¬ IsResetInstr s i) (h : exec i s = .next u) : KeepsModel s u := by
  have far : ((∃ seg w, i = .fcal seg w) ∨ (∃ seg w, i = .fj seg w) ∨ i = .frt) → s.farCode = true := fun hi =>
    Bool.not_eq_false _ ▸ fun near => hr (.inr ⟨near, hi⟩)
  by_cases hc : LoadsCsr i
  · obtain ⟨v, rfl⟩ | ⟨seg, w, rfl⟩ | ⟨seg, w, rfl⟩ | rfl | rfl | rfl := hc
    · exact execVcal_keepsModel h
    · exact (execFcal_keepsCode h).2 (far (.inl ⟨seg, w, rfl⟩))
    · exact (execFj_keepsCode h).2 (far (.inr (.inl ⟨seg, w, rfl⟩)))
    · exact (execFrt_keepsCode h).2 (far (.inr (.inr rfl)))
    · exact execRti_keepsModel h
    · exact absurd (.inl rfl) hr
  · exact (exec_keepsCsr hc h).toKeepsModel

/-- Every instruction keeps program memory, the device and the invariant. -/
theorem exec_keepsCode (h : exec i s = .next u) : KeepsCode s u := by
  by_cases hr : IsResetInstr s i
  · obtain rfl | ⟨_, ⟨seg, w, rfl⟩ | ⟨seg, w, rfl⟩ | rfl⟩ := hr
    · exact execBrk_keepsCode h
    · exact (execFcal_keepsCode h).1
    · exact (execFj_keepsCode h).1
    · exact (execFrt_keepsCode h).1
  · exact (exec_keepsModel hr h).toKeepsCode

/-- Settles O9: an instruction that changes CSR loads it, and one that changes the memory model is a reset. -/
theorem onlyTransfersChangeCsrAndModel : Obligations.OnlyTransfersChangeCsrAndModel := by
  intro i s u h
  refine ⟨fun hcsr => ?_, fun hmodel => ?_⟩
  · by_contra hc
    exact hcsr (exec_keepsCsr hc h).csr
  · by_contra hr
    have kept := exec_keepsModel hr h
    exact hmodel.elim (· kept.model) (· kept.modelSet)

/-! ## What a step keeps -/

theorem finish_error_ne_next {e : Stop} : finish (.error e) ≠ .next t := by
  cases e <;> nofun

theorem runInstr_keepsCode (h : runInstr s = .next t) : KeepsCode s t := by
  unfold runInstr at h
  split at h
  · exact ((KeepsCsr.refl s).setPc _).toKeepsCode.trans (exec_keepsCode h)
  · exact absurd h finish_error_ne_next
  · cases h
  · cases h

theorem pushCsrIfFar_keepsCsr (h : pushCsrIfFar s = .ok t) : KeepsCsr s t := by
  unfold pushCsrIfFar at h
  split at h
  · exact push16_keepsCsr h
  · cases h; exact KeepsCsr.refl s

theorem takeInterrupt_keepsModel {k : Nat} (h : takeInterrupt s k = .ok u) : KeepsModel s u := by
  obtain ⟨s1, h1, h⟩ := res_bind_ok.mp h
  obtain ⟨s2, h2, h⟩ := res_bind_ok.mp h
  obtain ⟨s3, h3, h⟩ := res_bind_ok.mp h
  obtain ⟨s4, h4, h⟩ := res_bind_ok.mp h
  obtain ⟨s5, h5, h⟩ := res_bind_ok.mp h
  obtain ⟨pc, _, h⟩ := res_bind_ok.mp h
  cases h
  have pushed : KeepsCsr s s5 :=
    ((((push16_keepsCsr h1).trans (pushCsrIfFar_keepsCsr h2)).trans (push16_keepsCsr h3)).trans
      (push16_keepsCsr h4)).trans (push16_keepsCsr h5)
  exact (((pushed.setPsw _).toKeepsModel.setCsr 0).setPc pc).setDdFetch _

/-- The event taken at a boundary is a reset or one the core can take. -/
theorem pickEvent_some {slot : List Event} {e : Event} (h : pickEvent s slot = some e) :
    Event.isReset e = true ∨ acceptable s e = true := by
  unfold pickEvent at h
  split at h
  · next hf => cases h; exact .inl (List.find?_some hf)
  · exact .inr (List.find?_some h)

/-- A setting of the memory model that is acceptable leaves it set and permitted (R66, D3). -/
theorem setModelRaw_keepsCode {m : MemModel} (ha : acceptable s (.setModel m) = true) :
    KeepsCode s (s.setModelRaw m true) where
  prog := rfl
  dev := rfl
  inv i :=
    { i with
      modelSmall := fun h => absurd h.symm Bool.false_ne_true
      modelPermitted := fun _ => by
        simp only [acceptable, Bool.and_eq_true, List.any_eq_true, beq_iff_eq, exists_eq_right] at ha
        exact ha.2 }

theorem busWrite_keepsCode {a : Nat} {v : Byte} (ha : acceptable s (.busWrite a v) = true) : KeepsCode s (s.putCell a v) :=
  (wrote_putCell s a v (of_decide_eq_true (Bool.and_eq_true _ _ ▸ ha).1)).keepsCsr.toKeepsCode

theorem deliver_keepsCode {e : Event} (ha : Event.isReset e = true ∨ acceptable s e = true) (h : deliver s e = .next t) :
    KeepsCode s t := by
  cases e with
  | res | wdt => exact takeReset_keepsCode (finish_next.mp h)
  | nmi | irq k => exact (takeInterrupt_keepsModel (finish_next.mp h)).toKeepsCode
  | setModel m => cases h; exact setModelRaw_keepsCode (ha.resolve_left nofun)
  | busWrite a v => cases h; exact busWrite_keepsCode (ha.resolve_left nofun)

/-- A step is an instruction or an event of the environment; either keeps program memory, the device and the invariant. -/
theorem step_keepsCode (h : step s = .next t) : KeepsCode s t := by
  have offered (rest : List (List Event)) : KeepsCode s (s.setInputs rest) := ⟨rfl, rfl, fun i => i.setInputs rest⟩
  unfold step at h
  split at h
  · exact runInstr_keepsCode h
  · next slot rest _ =>
    split at h
    · next e he => exact (offered rest).trans (deliver_keepsCode (pickEvent_some he) h)
    · exact (offered rest).trans (runInstr_keepsCode h)

end

/-- Settles O5, by what a step keeps: each operation keeps the invariant, and so does each event that is taken. -/
theorem stepKeepsInvariant : Obligations.StepKeepsInvariant :=
  fun _ _ i h => (step_keepsCode h).inv i

/-- Settles O7, by what a step keeps. -/
theorem stepLeavesProgramMemory : Obligations.StepLeavesProgramMemory :=
  fun _ _ h => ⟨(step_keepsCode h).prog, (step_keepsCode h).dev⟩

end Sys2Proof.Machine

/-! # What an instruction with a shape leaves: registers and flags -/

namespace Sys2Proof.Machine

/- One thread, as in the tests: elaborating beside them would not fit the memory of the check. -/
set_option Elab.async false

section
variable {s t u w : State}

/-! ## A store outside the SFR area -/

theorem memWriteByte_setData {seg : Byte} {off : Word} {v : Byte} (hs : isSfr seg off = false)
    (h : memWriteByte s seg off v = .ok w) : w = s.setData w.data := by
  rw [memWriteByte_plain v hs] at h
  split at h
  · cases h; rfl
  · simp at h

theorem memWriteWord_setData {seg : Byte} {off v : Word} (hs : isSfr seg off = false)
    (h : memWriteWord s seg off v = .ok w) : w = s.setData w.data := by
  rw [(memWriteWord_plain hs h).2.2]; rfl

theorem dWriteByte_setData {off : Word} {v : Byte} (hs : isSfr (s.physSeg off) off = false)
    (h : dWriteByte s off v = .ok w) : w = s.setData w.data := by
  unfold dWriteByte at h
  split at h
  · simp at h
  · exact memWriteByte_setData hs h

theorem dWriteWord_setData {off v : Word} (hs : isSfr (s.physSeg off) off = false)
    (h : dWriteWord s off v = .ok w) : w = s.setData w.data := by
  unfold dWriteWord at h
  split at h
  · simp at h
  · exact memWriteWord_setData hs h

/-- A store that changes no register but A, and that only at LA, and PSW, and that only at LS. -/
structure StoredOutsideSfr (l : Loc) (s w : State) : Prop where
  rest : w = ((s.setPsw w.psw).setA w.a).setData w.data
  a : l ≠ .acc → w.a = s.a
  psw : (∀ high, l ≠ .psw high) → w.psw = s.psw

theorem StoredOutsideSfr.ofData {l : Loc} (h : w = s.setData w.data) : StoredOutsideSfr l s w := by
  refine ⟨?_, fun _ => ?_, fun _ => ?_⟩ <;> rw [h] <;> rfl

theorem wrW_outsideSfr {l : Loc} {v : Word} (hs : l.inSfr s = false) (h : wrW l v s = .ok w) : StoredOutsideSfr l s w := by
  cases l with
  | acc => cases h; exact ⟨rfl, fun hl => absurd rfl hl, fun _ => rfl⟩
  | psw high => cases h; exact ⟨rfl, fun _ => rfl, fun hl => absurd rfl (hl high)⟩
  | phys p => exact .ofData (memWriteWord_setData hs h)
  | data off => exact .ofData (dWriteWord_setData hs (wrW_data_ok.mp h).2)

theorem wrB_outsideSfr {l : Loc} {v : Byte} (hs : l.inSfr s = false) (h : wrB l v s = .ok w) : StoredOutsideSfr l s w := by
  cases l with
  | acc => cases h; exact ⟨rfl, fun hl => absurd rfl hl, fun _ => rfl⟩
  | psw high => cases h; exact ⟨rfl, fun _ => rfl, fun hl => absurd rfl (hl high)⟩
  | phys p => exact .ofData (memWriteByte_setData hs h)
  | data off => exact .ofData (dWriteByte_setData hs h)

/-- A byte store leaves AH (R136). -/
theorem wrB_hiByte_a {l : Loc} {v : Byte} (hs : l.inSfr s = false) (h : wrB l v s = .ok w) : hiByte w.a = hiByte s.a := by
  by_cases hl : l = .acc
  · subst hl; cases h; exact hiByte_mkWord _ _
  · rw [(wrB_outsideSfr hs h).a hl]

/-- Where a location stands does not depend on the flags, only on BCB. -/
theorem Loc.inSfr_setPsw (l : Loc) {q : Word} (h : Psw.bcb q = Psw.bcb t.psw) : l.inSfr (t.setPsw q) = l.inSfr t := by
  cases l with
  | data off =>
    have : (t.setPsw q).physSeg off = t.physSeg off := by
      unfold State.physSeg
      rw [State.setPsw_psw, h]
      rfl
    simp only [Loc.inSfr, this]
  | _ => rfl

/-! ## The destination of a shape -/

section
variable {sh : Shape} {word : Bool} {l : Loc} (hd : sh.dest s = some (word, .ok (l, t)))
include hd

theorem Shape.inSfr_of_toSfr (h : sh.toSfr s = false) : l.inSfr t = false := by
  simpa only [Shape.toSfr, hd] using h

theorem Shape.ne_psw_of_toPsw (h : sh.toPsw s = false) (high : Bool) : l ≠ .psw high := by
  rintro rfl
  simp [Shape.toPsw, hd] at h

theorem Shape.ne_acc_of_writesA_no (h : sh.writesA s = .no) : l ≠ .acc := by
  rintro rfl
  cases sh with
  | exchW _ | exchB _ => cases h
  | loadW _ | loadB _ | loadImmW _ | loadImmB _ | aluAW _ _ _ | aluAB _ _ _ | aluImmW _ _ | aluImmB _ _ | tableW _ _ _
  | tableB _ _ _ => cases hd
  | _ => cases word <;> simp [Shape.writesA, hd] at h

end

theorem Shape.ne_acc_of_writesA_low {sh : Shape} {l : Loc} (hd : sh.dest s = some (true, .ok (l, t)))
    (h : sh.writesA s = .low) : l ≠ .acc := by
  rintro rfl
  cases sh with
  | exchW _ => cases h
  | exchB _ | loadW _ | loadB _ | loadImmW _ | loadImmB _ | aluAW _ _ _ | aluAB _ _ _ | aluImmW _ _ | aluImmB _ _
  | tableW _ _ _ | tableB _ _ _ => cases hd
  | _ => simp [Shape.writesA, hd] at h

/-! ## The registers after a shape -/

variable {sh : Shape} {q : Word}

/-- No store, or one to the shape's destination outside the SFR area; a byte store leaves AH. -/
theorem StoredBy.outsideSfr (h : StoredBy sh s t q w) (hf : SameBits sh.flags t.psw q) (hs : sh.toSfr s = false) :
    w = t.setPsw q ∨ ∃ word l, sh.dest s = some (word, .ok (l, t)) ∧ StoredOutsideSfr l (t.setPsw q) w ∧
      (word = false → hiByte w.a = hiByte t.a) := by
  have bcb : Psw.bcb q = Psw.bcb t.psw := hf.bcb
    (fun h => absurd (Shape.nine_le_of_mem_flags h) (by decide)) (fun h => absurd (Shape.nine_le_of_mem_flags h) (by decide))
  have outside {word : Bool} {l : Loc} (hd : sh.dest s = some (word, .ok (l, t))) : l.inSfr (t.setPsw q) = false :=
    (Loc.inSfr_setPsw l bcb).trans (Shape.inSfr_of_toSfr hd hs)
  cases h with
  | unstored => exact .inl rfl
  | word hd hw => exact .inr ⟨true, _, hd, wrW_outsideSfr (outside hd) hw, nofun⟩
  | byte hd hw =>
    exact .inr ⟨false, _, hd, wrB_outsideSfr (outside hd) hw, fun _ => wrB_hiByte_a (s := t.setPsw q) (outside hd) hw⟩

namespace Shape.Effect

variable (e : sh.Effect s u t w q) (hs : sh.toSfr s = false)
include e hs

/-- The registers an instruction with a shape may write: A, PSW, PC and DD_FETCH. -/
theorem eq_set : u = ((((s.setData u.data).setPsw u.psw).setA u.a).setPc u.pc).setDdFetch u.ddFetch := by
  have stored : w = ((t.setPsw w.psw).setA w.a).setData w.data := by
    obtain rfl | ⟨_, _, _, hw, _⟩ := e.stored.outsideSfr e.flags hs
    · rfl
    · exact hw.rest
  rw [e.rest, stored, e.located.data]
  rfl

theorem a_of_no (ha : sh.writesA s = .no) : u.a = s.a := by
  have located : t.a = s.a := by rw [e.located.data]; rfl
  obtain rfl | ⟨_, l, hd, hw, _⟩ := e.stored.outsideSfr e.flags hs
  · exact (e.accNo ha).trans located
  · exact ((e.accNo ha).trans (hw.a (Shape.ne_acc_of_writesA_no hd ha))).trans located

theorem hiByte_a_of_low (ha : sh.writesA s = .low) : hiByte u.a = hiByte s.a := by
  have located : t.a = s.a := by rw [e.located.data]; rfl
  rw [e.accLow ha, ← located]
  obtain rfl | ⟨word, l, hd, hw, byteStore⟩ := e.stored.outsideSfr e.flags hs
  · rfl
  · cases word with
    | false => exact byteStore rfl
    | true => exact congrArg hiByte (hw.a (Shape.ne_acc_of_writesA_low hd ha))

theorem pc_of_not_jumps (hj : sh.jumps = false) : u.pc = s.pc := by
  have located : t.pc = s.pc := by rw [e.located.data]; rfl
  obtain rfl | ⟨_, _, _, hw, _⟩ := e.stored.outsideSfr e.flags hs
  · exact (e.pc hj).trans located
  · rw [e.pc hj, hw.rest]; exact located

theorem sameBits_psw (hp : sh.toPsw s = false) : SameBits sh.flags s.psw u.psw := by
  have written : w.psw = q := by
    obtain rfl | ⟨_, l, hd, hw, _⟩ := e.stored.outsideSfr e.flags hs
    · rfl
    · exact hw.psw (Shape.ne_psw_of_toPsw hd hp)
  have flags := e.flags
  rw [e.located.psw, ← written] at flags
  rw [e.rest]
  exact flags

end Shape.Effect

theorem Shape.Effect.kept (e : sh.Effect s u t w q) (hs : sh.toSfr s = false) : Kept s u ∧ u.draws = s.draws := by
  rw [e.eq_set hs]
  exact ⟨⟨⟨rfl, rfl, rfl, rfl, rfl, rfl, rfl, rfl, rfl, rfl⟩, rfl, rfl⟩, rfl⟩

end

/-- Settles O60, from the phases of a shape: the operands are located, the flags written, the result stored, and A and PC
written last. -/
theorem frameOfRegisters : Obligations.FrameOfRegisters := by
  intro i sh s u hi h hs
  obtain ⟨t, w, q, e⟩ := Shape.run_acts ((exec_shape s hi).symm.trans h)
  exact ⟨(e.kept hs).1, (e.kept hs).2, e.pc_of_not_jumps hs, e.a_of_no hs, e.hiByte_a_of_low hs, e.sameBits_psw hs⟩

end Sys2Proof.Machine

/-! # The registers in data memory, the flags of the eight operations, and the state after reset -/

namespace Sys2Proof.Machine

/- One thread, as in the tests: elaborating beside them would not fit the memory of the check. -/
set_option Elab.async false

/-! ## Memory that reads back -/

section
variable {s t : State} {seg : Byte} {off : Word}

theorem memReadByte_plain (hs : isSfr seg off = false) (hp : inRanges s.dev.dataPresent (key seg off) = true) {v : Byte}
    (hc : s.cell (key seg off) = some v) : memReadByte s seg off = .ok v := by
  simp only [memReadByte, hs, Bool.false_eq_true, if_false, hp, if_true, hc]

theorem memReadWord_plain (hs : isSfr seg off = false) (hp : inRanges s.dev.dataPresent (key seg (evenOff off)) = true)
    (hp' : inRanges s.dev.dataPresent (key seg (evenOff off) + 1) = true) {l h : Byte}
    (hl : s.cell (key seg (evenOff off)) = some l) (hh : s.cell (key seg (evenOff off) + 1) = some h) :
    memReadWord s seg off = .ok (mkWord h l) := by
  rw [← key_evenOff_succ] at hp' hh
  rw [memReadWord, memReadByte_plain ((isSfr_evenOff seg off).trans hs) hp hl, res_ok_bind,
    memReadByte_plain ((isSfr_evenOff_succ seg off).trans hs) hp' hh]
  rfl

/-- A word store outside the SFR area completes where both bytes are there, reads back, and changes nothing else. -/
theorem memWriteWord_reads_back (v : Word) (hs : isSfr seg off = false)
    (hp : inRanges s.dev.dataPresent (key seg (evenOff off)) = true)
    (hp' : inRanges s.dev.dataPresent (key seg (evenOff off) + 1) = true) :
    ∃ t, memWriteWord s seg off v = .ok t ∧ memReadWord t seg off = .ok v ∧ t = s.setData t.data ∧
      SameCells (wordBytes seg off) s t := by
  have written := memWriteWord_ok v hs hp hp'
  have apart : key seg (evenOff off) ≠ key seg (evenOff off) + 1 := by omega
  have read := memReadWord_plain
    (s := (s.putCell (key seg (evenOff off)) (loByte v)).putCell (key seg (evenOff off) + 1) (hiByte v)) hs hp hp'
    ((cell_putCell_other _ _ apart).trans (cell_putCell_self _ _ _)) (cell_putCell_self _ _ _)
  rw [mkWord_hi_lo] at read
  exact ⟨_, written, read, rfl, (memWriteWord_wrote written).cells⟩

/-- A byte store outside the SFR area completes where the byte is there, reads back, and changes nothing else. -/
theorem memWriteByte_reads_back (v : Byte) (hs : isSfr seg off = false)
    (hp : inRanges s.dev.dataPresent (key seg off) = true) :
    ∃ t, memWriteByte s seg off v = .ok t ∧ memReadByte t seg off = .ok v ∧ t = s.setData t.data ∧
      SameCells [key seg off] s t := by
  have written := (memWriteByte_plain v hs).trans (if_pos hp)
  have read := memReadByte_plain (s := s.putCell (key seg off) v) hs hp (cell_putCell_self _ _ _)
  exact ⟨_, written, read, rfl, (memWriteByte_wrote written).cells⟩

end

/-! ## The pointing and local registers (R51, R55) -/

/-- An offset whose byte is a byte of a pointing or local register. -/
def InRegisters (off : Word) : Prop := 0x200 ≤ off.toNat ∧ off.toNat < 0xA00

section
variable {s : State} {off : Word}

theorem key_zero (off : Word) : key 0 off = off.toNat := by simp [key]

theorem InRegisters.not_sfr (h : InRegisters off) : isSfr 0 off = false := by
  obtain ⟨h1, _⟩ := h
  simp [isSfr]; omega

theorem InRegisters.present (h : InRegisters off) (hs : RegistersPresent s) :
    inRanges s.dev.dataPresent (key 0 off) = true := by
  rw [key_zero]; exact hs _ h.1 h.2

theorem InRegisters.evenOff (h : InRegisters off) : InRegisters (evenOff off) := by
  obtain ⟨h1, h2⟩ := h
  unfold InRegisters
  rw [evenOff_toNat]; omega

theorem InRegisters.evenOff_succ (h : InRegisters off) : InRegisters (Machine.evenOff off + 1) := by
  obtain ⟨h1, h2⟩ := h
  unfold InRegisters
  rw [evenOff_succ_toNat]; omega

/-- A byte below 0A00H always has a value: nothing written reads 0 (log 1). -/
theorem InRegisters.cell (h : InRegisters off) (s : State) : ∃ v, s.cell (key 0 off) = some v := by
  rw [key_zero]
  unfold State.cell Memory.read
  split
  · exact ⟨_, rfl⟩
  · exact ⟨0, if_pos h.2⟩

theorem inRegisters_prAddr (s : State) (n : PR) : InRegisters (s.prAddr n) := by
  have := (Psw.scb s.psw).isLt
  unfold InRegisters
  rw [prAddr_toNat]
  cases n <;> simp only [PR.num] <;> omega

theorem inRegisters_rAddr (s : State) {n : Nat} (h : n < 8) : InRegisters (s.rAddr n) := by
  have := (loByte s.lrb).isLt
  unfold InRegisters
  rw [rAddr_toNat s n h]
  omega

variable (hs : RegistersPresent s) (h : InRegisters off)
include hs h

theorem registerByte_reads : ∃ v, memReadByte s 0 off = .ok v := by
  obtain ⟨v, hv⟩ := h.cell s
  exact ⟨v, memReadByte_plain h.not_sfr (h.present hs) hv⟩

theorem registerWord_reads : ∃ v, memReadWord s 0 off = .ok v := by
  obtain ⟨l, hl⟩ := registerByte_reads hs h.evenOff
  obtain ⟨u, hu⟩ := registerByte_reads hs h.evenOff_succ
  exact ⟨mkWord u l, by rw [memReadWord, hl, res_ok_bind, hu]; rfl⟩

theorem registerByte_reads_back (v : Byte) : ∃ t, memWriteByte s 0 off v = .ok t ∧ memReadByte t 0 off = .ok v ∧
    t = s.setData t.data ∧ SameCells [key 0 off] s t :=
  memWriteByte_reads_back v h.not_sfr (h.present hs)

theorem registerWord_reads_back (v : Word) : ∃ t, memWriteWord s 0 off v = .ok t ∧ memReadWord t 0 off = .ok v ∧
    t = s.setData t.data ∧ SameCells (wordBytes 0 off) s t :=
  memWriteWord_reads_back v h.not_sfr (h.evenOff.present hs) (key_evenOff_succ 0 off ▸ h.evenOff_succ.present hs)

end

theorem r8_num_lt (n : R8) : n.num < 8 := by cases n <;> decide

theorem er_num_lt (n : ER) : n.num < 4 := by cases n <;> decide

/-- Settles O12: a register is bytes of memory that is there, and a write of memory does not move it. -/
theorem registersReadAndWrite : Obligations.RegistersReadAndWrite := by
  intro s hs
  have er (n : ER) : InRegisters (s.rAddr (2 * n.num)) := inRegisters_rAddr s (by have := er_num_lt n; omega)
  have r (n : R8) : InRegisters (s.rAddr n.num) := inRegisters_rAddr s (r8_num_lt n)
  refine ⟨fun n => registerWord_reads hs (inRegisters_prAddr s n), fun n => registerWord_reads hs (er n),
    fun n => registerByte_reads hs (r n), fun n v => ?_, fun n v => ?_, fun n v => ?_⟩
  · obtain ⟨t, hw, hr, ht, hc⟩ := registerWord_reads_back hs (inRegisters_prAddr s n) v
    have stands : t.prAddr n = s.prAddr n := by rw [ht]; rfl
    exact ⟨t, hw, by rw [prRead, stands]; exact hr, ht, hc⟩
  · obtain ⟨t, hw, hr, ht, hc⟩ := registerWord_reads_back hs (er n) v
    have stands : t.rAddr (2 * n.num) = s.rAddr (2 * n.num) := by rw [ht]; rfl
    exact ⟨t, hw, by rw [erRead, stands]; exact hr, ht, hc⟩
  · obtain ⟨t, hw, hr, ht, hc⟩ := registerByte_reads_back hs (r n) v
    have stands : t.rAddr n.num = s.rAddr n.num := by rw [ht]; rfl
    exact ⟨t, hw, by rw [rRead, stands]; exact hr, ht, hc⟩

theorem evenOff_rAddr (s : State) (n : ER) : evenOff (s.rAddr (2 * n.num)) = s.rAddr (2 * n.num) := by
  have hn := er_num_lt n
  apply BitVec.eq_of_toNat_eq
  rw [evenOff_toNat, rAddr_toNat s _ (by omega)]
  omega

theorem rAddr_succ (s : State) (n : Nat) : s.rAddr n + 1 = s.rAddr (n + 1) := by
  simp [State.rAddr, BitVec.ofNat_add, BitVec.add_assoc]

/-- Settles O11, from where the model computes the addresses, which do not wrap. -/
theorem registersStandInMemory : Obligations.RegistersStandInMemory := by
  intro s
  refine ⟨prAddr_toNat s, fun n hn => rAddr_toNat s n hn, fun n h l hh hl => ?_⟩
  rw [erRead, memReadWord, evenOff_rAddr, rAddr_succ, hl, res_ok_bind, hh]
  rfl

/-! ## The segment of a data offset (R34, R102) -/

theorem commonLimit_bounds (bcb : BitVec 2) : 0x3FF ≤ commonLimit bcb ∧ commonLimit bcb ≤ 0x7FFF := by
  unfold commonLimit
  repeat' split
  all_goals omega

theorem physSeg_common {s : State} {off : Word} (h : off.toNat ≤ commonLimit (Psw.bcb s.psw)) : s.physSeg off = 0 :=
  if_pos h

theorem physSeg_above {s : State} {off : Word} (h : commonLimit (Psw.bcb s.psw) < off.toNat) : s.physSeg off = s.dataSeg :=
  if_neg (Nat.not_le.mpr h)

theorem dataSeg_near {s : State} (h : s.model = .small ∨ s.model = .medium) : s.dataSeg = 0 := by
  unfold State.dataSeg State.farData
  obtain h | h := h <;> rw [h] <;> rfl

theorem dataSeg_far {s : State} (h : s.model = .compact ∨ s.model = .large) : s.dataSeg = s.dsr := by
  unfold State.dataSeg State.farData
  obtain h | h := h <;> rw [h] <;> rfl

/-- Settles O15, from the bounds of the common area and the data segment of each model. -/
theorem dataSegmentOfOffset : Obligations.DataSegmentOfOffset := by
  intro s off
  have limits := commonLimit_bounds (Psw.bcb s.psw)
  refine ⟨⟨rfl, rfl, rfl, rfl⟩, fun h => physSeg_common (h.trans limits.1), fun hb h => physSeg_common (hb ▸ h),
    fun hb h => physSeg_common (hb ▸ h), fun hb h => physSeg_common (hb ▸ h), fun hm => ?_, fun hm h => ?_⟩
  · by_cases h : off.toNat ≤ commonLimit (Psw.bcb s.psw)
    · exact physSeg_common h
    · exact (physSeg_above (Nat.lt_of_not_le h)).trans (dataSeg_near hm)
  · have above : commonLimit (Psw.bcb s.psw) < off.toNat := by
      obtain h | ⟨hb, h⟩ | ⟨hb, h⟩ | ⟨hb, h⟩ := h
      · exact limits.2.trans_lt h
      all_goals rw [hb]; exact h
    exact (physSeg_above above).trans (dataSeg_far hm)

/-! ## The eight operations (R37, R295, R340) -/

section
variable {N a b c r : Nat} (ha : a < 2 * N) (hb : b < 2 * N) (hc : c ≤ 1) (hr : r < 2 * N)
include ha hb hc hr

/-- A sum of two signed numbers fits exactly when the operands differ in sign or the result has their sign. `N` is the weight
of the sign bit, so a number `a` stands for `a - 2 * N` from `N` on. -/
theorem add_overflow_iff (h : r = a + b + c ∨ r + 2 * N = a + b + c) :
    (((N ≤ a) ↔ (N ≤ b)) ∧ ¬ ((N ≤ r) ↔ (N ≤ a))) ↔
      (if a < N then (a : Int) else a - 2 * N) + (if b < N then (b : Int) else b - 2 * N) + c < -N ∨
      (N : Int) ≤ (if a < N then (a : Int) else a - 2 * N) + (if b < N then (b : Int) else b - 2 * N) + c := by
  split <;> split <;> omega

theorem sub_overflow_iff (h : (r : Int) = a - b - c ∨ (r : Int) = a - b - c + 2 * N) :
    (¬ ((N ≤ a) ↔ (N ≤ b)) ∧ ¬ ((N ≤ r) ↔ (N ≤ a))) ↔
      (if a < N then (a : Int) else a - 2 * N) - (if b < N then (b : Int) else b - 2 * N) - c < -N ∨
      (N : Int) ≤ (if a < N then (a : Int) else a - 2 * N) - (if b < N then (b : Int) else b - 2 * N) - c := by
  split <;> split <;> omega

end

section
variable {w : Nat} (hw : 0 < w)
include hw

theorem two_pow_eq : 2 ^ w = 2 * 2 ^ (w - 1) := (Nat.two_pow_pred_mul_two hw).symm.trans (Nat.mul_comm _ _)

/-- The signed value of a word, with the weight of its sign bit. -/
theorem toInt_eq_signed (x : BitVec w) :
    x.toInt = if x.toNat < 2 ^ (w - 1) then (x.toNat : Int) else x.toNat - 2 * (2 ^ (w - 1) : Nat) := by
  have := two_pow_eq hw
  rw [BitVec.toInt_eq_toNat_cond]
  split <;> split <;> omega

end

/-- What an operation on w-bit words answers, in numbers: `n` is the exact sum or difference of the unsigned operands, `m` that
of the signed ones, `half` whether bit 3 carries or borrows. -/
structure AluOut.Means {w : Nat} (o : AluOut w) (n m : Int) (carry half : Bool) : Prop where
  res : (o.res.toNat : Int) = n % 2 ^ w
  c : o.c = carry
  z : o.z = decide (n % 2 ^ w = 0)
  s : o.s = decide (2 ^ (w - 1) ≤ n % 2 ^ w)
  ov : o.ov = decide (m < -(2 ^ (w - 1)) ∨ 2 ^ (w - 1) ≤ m)
  hc : o.hc = half

theorem beq_zero_eq_decide {w : Nat} {r : BitVec w} {n : Int} (h : (r.toNat : Int) = n) : (r == 0) = decide (n = 0) := by
  rw [Bool.eq_iff_iff, beq_iff_eq, decide_eq_true_iff, ← h, ← BitVec.toNat_inj]
  simp

theorem msb_eq_decide_int {w : Nat} {r : BitVec w} {n : Int} (h : (r.toNat : Int) = n) :
    r.msb = decide (2 ^ (w - 1) ≤ n) := by
  rw [BitVec.msb_eq_decide, Bool.eq_iff_iff, decide_eq_true_iff, decide_eq_true_iff, ← h]
  norm_cast

/-- A number at most one modulus below the residues. -/
theorem emod_of_neg_le {d M : Int} (h1 : -M ≤ d) (h2 : d < M) : d % M = d ∨ d % M = d + M := by
  obtain h | h := le_or_gt 0 d
  · exact .inl (Int.emod_eq_of_lt h h2)
  · exact .inr (by rw [← Int.add_emod_right, Int.emod_eq_of_lt (by omega) (by omega)])

/-- A number at most one modulus above the residues. -/
theorem emod_of_lt_two_mul {n M : Int} (h1 : 0 ≤ n) (h2 : n < 2 * M) : n % M = n ∨ n % M + M = n := by
  have := emod_of_neg_le (d := n - M) (M := M) (by omega) (by omega)
  rw [Int.sub_emod_right] at this
  omega

/-- `AddFlags` of R37. -/
theorem addFlags_means {w : Nat} (hw : 0 < w) (x y : BitVec w) (c : Bool) :
    (addFlags x y c).Means (x.toNat + y.toNat + c.toNat) (x.toInt + y.toInt + c.toNat)
      (decide (2 ^ w ≤ x.toNat + y.toNat + c.toNat)) (decide (16 ≤ x.toNat % 16 + y.toNat % 16 + c.toNat)) := by
  have res : ((addFlags x y c).res.toNat : Int) = ((x.toNat : Int) + y.toNat + c.toNat) % 2 ^ w := by
    simp [addFlags, BitVec.toNat_ofNat]
  refine ⟨res, rfl, beq_zero_eq_decide res, msb_eq_decide_int res, ?_, rfl⟩
  have pow := two_pow_eq hw
  have hx : x.toNat < 2 * 2 ^ (w - 1) := pow ▸ x.isLt
  have hy : y.toNat < 2 * 2 ^ (w - 1) := pow ▸ y.isLt
  have hr : (addFlags x y c).res.toNat < 2 * 2 ^ (w - 1) := pow ▸ (addFlags x y c).res.isLt
  have hc := Bool.toNat_le c
  have wraps : (addFlags x y c).res.toNat = x.toNat + y.toNat + c.toNat ∨
      (addFlags x y c).res.toNat + 2 * 2 ^ (w - 1) = x.toNat + y.toNat + c.toNat := by
    have := emod_of_lt_two_mul (n := (x.toNat : Int) + y.toNat + c.toNat) (M := (2 ^ w : Nat)) (by omega) (by omega)
    push_cast at this
    rw [← res] at this
    zify at pow ⊢
    omega
  have key := add_overflow_iff hx hy hc hr wraps
  rw [← toInt_eq_signed hw, ← toInt_eq_signed hw] at key
  push_cast at key
  have flag : (addFlags x y c).ov = ((x.msb == y.msb) && ((addFlags x y c).res.msb != x.msb)) := rfl
  rw [flag, Bool.eq_iff_iff, decide_eq_true_iff, ← key]
  simp [BitVec.msb_eq_decide]

/-- `SubFlags` of R37. -/
theorem subFlags_means {w : Nat} (hw : 0 < w) (x y : BitVec w) (c : Bool) :
    (subFlags x y c).Means (x.toNat - y.toNat - c.toNat) (x.toInt - y.toInt - c.toNat)
      (decide ((x.toNat : Int) - y.toNat - c.toNat < 0)) (decide (x.toNat % 16 < y.toNat % 16 + c.toNat)) := by
  have res : ((subFlags x y c).res.toNat : Int) = ((x.toNat : Int) - y.toNat - c.toNat) % 2 ^ w := by
    simp only [subFlags, BitVec.toNat_ofInt]
    rw [Int.toNat_of_nonneg (Int.emod_nonneg _ (by positivity))]
    norm_cast
  have half : (subFlags x y c).hc = decide (x.toNat % 16 < y.toNat % 16 + c.toNat) := by
    simp only [subFlags, decide_eq_decide]
    omega
  refine ⟨res, rfl, beq_zero_eq_decide res, msb_eq_decide_int res, ?_, half⟩
  have pow := two_pow_eq hw
  have hx : x.toNat < 2 * 2 ^ (w - 1) := pow ▸ x.isLt
  have hy : y.toNat < 2 * 2 ^ (w - 1) := pow ▸ y.isLt
  have hr : (subFlags x y c).res.toNat < 2 * 2 ^ (w - 1) := pow ▸ (subFlags x y c).res.isLt
  have hc := Bool.toNat_le c
  have wraps : ((subFlags x y c).res.toNat : Int) = x.toNat - y.toNat - c.toNat ∨
      ((subFlags x y c).res.toNat : Int) = x.toNat - y.toNat - c.toNat + 2 * (2 ^ (w - 1) : Nat) := by
    have := emod_of_neg_le (d := (x.toNat : Int) - y.toNat - c.toNat) (M := (2 ^ w : Nat)) (by omega) (by omega)
    push_cast at this
    rw [← res] at this
    zify at pow
    push_cast
    omega
  have key := sub_overflow_iff hx hy hc hr wraps
  rw [← toInt_eq_signed hw, ← toInt_eq_signed hw] at key
  push_cast at key
  have flag : (subFlags x y c).ov = ((x.msb != y.msb) && ((subFlags x y c).res.msb != x.msb)) := rfl
  rw [flag, Bool.eq_iff_iff, decide_eq_true_iff, ← key]
  simp [BitVec.msb_eq_decide]

/-- The flags as they stand in PSW after an addition, a subtraction or a comparison. -/
theorem putArith_fields {w : Nat} (p : Word) (o : AluOut w) :
    Psw.c (Psw.putArith p o) = o.c ∧ Psw.z (Psw.putArith p o) = o.z ∧ Psw.s (Psw.putArith p o) = o.s ∧
      Psw.ov (Psw.putArith p o) = o.ov ∧ Psw.hc (Psw.putArith p o) = o.hc := by
  simp [Psw.putArith]

theorem aluRun_add {w : Nat} {op : AluOp} {p : Word} {c : Bool} (x y : BitVec w)
    (h : (op = .add ∧ c = false) ∨ (op = .adc ∧ c = Psw.c p)) :
    aluRun op p x y = ((addFlags x y c).res, Psw.putArith p (addFlags x y c)) := by
  obtain ⟨rfl, rfl⟩ | ⟨rfl, rfl⟩ := h <;> rfl

theorem aluRun_sub {w : Nat} {op : AluOp} {p : Word} {c : Bool} (x y : BitVec w)
    (h : ((op = .sub ∨ op = .cmp) ∧ c = false) ∨ (op = .sbc ∧ c = Psw.c p)) :
    aluRun op p x y = ((subFlags x y c).res, Psw.putArith p (subFlags x y c)) := by
  obtain ⟨rfl | rfl, rfl⟩ | ⟨rfl, rfl⟩ := h <;> rfl

/-- The logical operations write Z and S of their result. -/
theorem putLogic_fields {w : Nat} (p : Word) (r : BitVec w) :
    Psw.z (Psw.putLogic p r) = decide (r.toNat = 0) ∧ Psw.s (Psw.putLogic p r) = r.getLsbD (w - 1) := by
  refine ⟨?_, ?_⟩
  · rw [Psw.putLogic, Psw.z_setS, Psw.z_setZ, Bool.eq_iff_iff, beq_iff_eq, decide_eq_true_iff, ← BitVec.toNat_inj]
    simp
  · rw [Psw.putLogic, Psw.s_setS, BitVec.msb_eq_getLsbD_last]

/-- Settles O31: addition and subtraction by `AluOut.Means`, the logical operations bit by bit. -/
theorem aluMeaning : Obligations.AluMeaning := by
  intro w p x y hw
  have pos : 0 < w := by omega
  refine ⟨fun op c n hop hn => ?_, fun op c n hop hn => ?_, fun op hop => ?_⟩
  · subst hn
    rw [aluRun_add x y hop]
    obtain ⟨hc, hz, hs, hov, hhc⟩ := putArith_fields p (addFlags x y c)
    have m := addFlags_means pos x y c
    refine ⟨?_, hc.trans m.c, hz.trans (m.z.trans ?_), hs.trans (m.s.trans ?_), hov.trans m.ov, hhc.trans m.hc,
      putArith_sameBits p _⟩
    · exact_mod_cast m.res
    · exact decide_eq_decide.mpr (by norm_cast)
    · exact decide_eq_decide.mpr (by norm_cast)
  · subst hn
    rw [aluRun_sub x y hop]
    obtain ⟨hc, hz, hs, hov, hhc⟩ := putArith_fields p (subFlags x y c)
    have m := subFlags_means pos x y c
    exact ⟨m.res, hc.trans m.c, hz.trans m.z, hs.trans m.s, hov.trans m.ov, hhc.trans m.hc, putArith_sameBits p _⟩
  · obtain rfl | rfl | rfl := hop
    · exact ⟨fun k _ => BitVec.getLsbD_and .., (putLogic_fields p _).1, (putLogic_fields p _).2, putLogic_sameBits p _⟩
    · exact ⟨fun k _ => BitVec.getLsbD_or .., (putLogic_fields p _).1, (putLogic_fields p _).2, putLogic_sameBits p _⟩
    · exact ⟨fun k _ => BitVec.getLsbD_xor .., (putLogic_fields p _).1, (putLogic_fields p _).2, putLogic_sameBits p _⟩

/-! ## One step, one flag, and the state after reset -/

theorem runInstr_decoded {s : State} {i : Instr} {len : Nat} (h : decode s.dev s.ddFetch s.window = .ok (i, len)) :
    runInstr s = exec i (s.setPc (s.pc + BitVec.ofNat 16 len)) := by
  simp only [runInstr, h]

/-- What is fetched does not depend on what the environment offers. -/
theorem window_setInputs (s : State) (l : List (List Event)) : (s.setInputs l).window = s.window := by
  have bytes : ∀ n off, fetchBytes (s.setInputs l) n off = fetchBytes s n off := by
    intro n
    induction n with
    | zero => intro off; rfl
    | succ n ih =>
      intro off
      have byte : codeReadByte (s.setInputs l) (s.setInputs l).codeSeg off = codeReadByte s s.codeSeg off := rfl
      simp only [fetchBytes, byte, ih]
  exact bytes maxLength s.pc

/-- Settles O4, because what is fetched and decoded does not depend on the offers. -/
theorem stepRunsDecodedInstruction : Obligations.StepRunsDecodedInstruction := by
  intro s i len h
  refine ⟨fun hin => ?_, fun slot rest hin hpick => ?_⟩
  · simp only [step, hin]
    exact runInstr_decoded h
  · simp only [step, hin, hpick]
    exact runInstr_decoded (s := s.setInputs rest) (by rw [window_setInputs]; exact h)

/-- Settles O10, each update being `putBit` at its place of R22. -/
theorem flagWritesTouchOneBit : Obligations.FlagWritesTouchOneBit := by
  intro p b k
  have psw (i : Nat) (hi : i < 16) : (putBit p i b).getLsbD k = if k = i then b else p.getLsbD k :=
    getLsbD_putBit p i k b hi
  exact ⟨psw 15 (by decide), psw 14 (by decide), psw 13 (by decide), psw 12 (by decide), psw 11 (by decide),
    psw 9 (by decide), psw 8 (by decide), fun x i => getLsbD_putBit x i.val k b i.isLt⟩

/-- Settles O6, both memories being empty and every register at its reset value. -/
theorem resetMeetsInvariant : Obligations.ResetMeetsInvariant where
  dataWf := Memory.wf_nil dataDefault
  progWf := Memory.wf_nil progDefault
  csrBits := BitVec.zero_and
  tsrBits := BitVec.zero_and
  dsrBits := BitVec.zero_and
  romwinShut := fun _ => rfl
  modelSmall := fun _ => rfl
  modelPermitted := fun h => absurd h Bool.false_ne_true

/-- Settles O52, field by field. -/
theorem resetStateValues : Obligations.ResetStateValues :=
  ⟨by constructor <;> rfl, rfl, rfl, rfl⟩

end Sys2Proof.Machine

/-! # Data memory, the ROM window, the SFR area, resets and vector calls -/

namespace Sys2Proof.Machine

/- One thread, as in the tests: elaborating beside them would not fit the memory of the check. -/
set_option Elab.async false

/-! ## The two bytes of a word (R82 to R84, R104) -/

section
variable {s t u : State} {seg : Byte} {off : Word}

theorem memReadWord_evenOff (s : State) (seg : Byte) (off : Word) :
    memReadWord s seg (evenOff off) = memReadWord s seg off := by
  simp only [memReadWord, evenOff_idem]

theorem memWriteWord_evenOff (s : State) (seg : Byte) (off v : Word) :
    memWriteWord s seg (evenOff off) v = memWriteWord s seg off v := by
  simp only [memWriteWord, evenOff_idem]

theorem memReadWord_of_bytes {h l : Byte} (hl : memReadByte s seg (evenOff off) = .ok l)
    (hh : memReadByte s seg (evenOff off + 1) = .ok h) : memReadWord s seg off = .ok (mkWord h l) := by
  rw [memReadWord, hl, res_ok_bind, hh, res_ok_bind, res_pure]

theorem memReadWord_of_halves {x : Word} (hl : memReadByte s seg (evenOff off) = .ok (loByte x))
    (hh : memReadByte s seg (evenOff off + 1) = .ok (hiByte x)) : memReadWord s seg off = .ok x := by
  rw [memReadWord_of_bytes hl hh, mkWord_hi_lo]

/-- A word store is a store of the low byte and then, in the state it leaves, of the high byte. -/
theorem memWriteWord_of_bytes {v : Word} (hl : memWriteByte s seg (evenOff off) (loByte v) = .ok t)
    (hh : memWriteByte t seg (evenOff off + 1) (hiByte v) = .ok u) : memWriteWord s seg off v = .ok u := by
  rw [memWriteWord, hl, res_ok_bind, hh]

theorem codeReadWord_of_bytes {h l : Byte} (hl : codeReadByte s seg off = .ok l)
    (hh : codeReadByte s seg (off + 1) = .ok h) : codeReadWord s seg off = .ok (mkWord h l) := by
  rw [codeReadWord, hl, res_ok_bind, hh, res_ok_bind, res_pure]

/-- Program memory reads the same in states with the same program memory on the same device. -/
theorem codeReadWord_congr (hp : t.prog = s.prog) (hd : t.dev = s.dev) (seg : Byte) (off : Word) :
    codeReadWord t seg off = codeReadWord s seg off := by
  simp only [codeReadWord, codeReadByte, hp, hd]

/-- Settles O13, the even offset being its own even offset. -/
theorem wordBoundary : Obligations.WordBoundary := fun s seg off v =>
  ⟨(memReadWord_evenOff s seg off).symm, (memWriteWord_evenOff s seg off v).symm, fun _ _ => memReadWord_of_bytes,
    fun _ _ => codeReadWord_of_bytes⟩

/-! ## A store outside the SFR area, and memory that is absent (R97, R100, R101) -/

theorem memWriteByte_absent (v : Byte) (hs : isSfr seg off = false)
    (hp : inRanges s.dev.dataPresent (key seg off) = false) : memWriteByte s seg off v = .error (.fault .absentData) := by
  rw [memWriteByte_plain v hs, hp]; rfl

theorem memReadByte_absent (hs : isSfr seg off = false) (hp : inRanges s.dev.dataPresent (key seg off) = false) :
    memReadByte s seg off = .error (.fault .absentData) := by
  rw [memReadByte, hs, hp]; rfl

/-- A word store faults where either byte is absent: at the low byte, or at the high byte after the low byte's store. -/
theorem memWriteWord_absent (v : Word) (hs : isSfr seg off = false)
    (hp : inRanges s.dev.dataPresent (key seg (evenOff off)) = false ∨
      inRanges s.dev.dataPresent (key seg (evenOff off) + 1) = false) :
    memWriteWord s seg off v = .error (.fault .absentData) := by
  have lowSfr := (isSfr_evenOff seg off).trans hs
  cases low : inRanges s.dev.dataPresent (key seg (evenOff off)) with
  | false => rw [memWriteWord, memWriteByte_absent _ lowSfr low, res_error_bind]
  | true =>
    have high := hp.resolve_left (by simp only [low, Bool.true_eq_false, not_false_iff])
    rw [← key_evenOff_succ] at high
    rw [memWriteWord, memWriteByte_plain _ lowSfr, if_pos low, res_ok_bind]
    exact memWriteByte_absent _ ((isSfr_evenOff_succ seg off).trans hs) high

theorem memReadWord_absent_low (hs : isSfr seg off = false)
    (hp : inRanges s.dev.dataPresent (key seg (evenOff off)) = false) :
    memReadWord s seg off = .error (.fault .absentData) := by
  rw [memReadWord, memReadByte_absent ((isSfr_evenOff seg off).trans hs) hp, res_error_bind]

theorem memReadWord_absent_high {l : Byte} (hs : isSfr seg off = false)
    (hp : inRanges s.dev.dataPresent (key seg (evenOff off) + 1) = false)
    (hl : memReadByte s seg (evenOff off) = .ok l) : memReadWord s seg off = .error (.fault .absentData) := by
  rw [← key_evenOff_succ] at hp
  rw [memReadWord, hl, res_ok_bind, memReadByte_absent ((isSfr_evenOff_succ seg off).trans hs) hp, res_error_bind]

/-- The two bytes of memory after a word store outside the SFR area. -/
theorem memWriteWord_cells {v : Word} (hs : isSfr seg off = false) (h : memWriteWord s seg off v = .ok t) :
    t.cell (key seg (evenOff off)) = some (loByte v) ∧ t.cell (key seg (evenOff off) + 1) = some (hiByte v) := by
  rw [(memWriteWord_plain hs h).2.2]
  exact ⟨(cell_putCell_other _ _ (Nat.lt_succ_self _).ne).trans (cell_putCell_self _ _ _), cell_putCell_self _ _ _⟩

/-- Settles O14: where the bytes are there a store reads back, elsewhere the byte that is absent faults. -/
theorem storeThenRead : Obligations.StoreThenRead := by
  intro s seg off hs
  refine ⟨fun v hp => memWriteByte_reads_back v hs hp, fun v hp => ⟨memWriteByte_absent v hs hp, memReadByte_absent hs hp⟩,
    fun v hp hp' => ?_, fun v hp => memWriteWord_absent v hs hp, memReadWord_absent_low hs,
    fun l hp hl => memReadWord_absent_high hs hp hl⟩
  obtain ⟨t, written, read, data, kept⟩ := memWriteWord_reads_back v hs hp hp'
  obtain ⟨low, high⟩ := memWriteWord_cells hs written
  exact ⟨t, written, read, low, high, data, kept⟩

/-! ## The stack (R106, R107) -/

/-- Which words are ordinary memory depends on the device and on ROMWIN alone. -/
theorem PlainWord.congr (h : PlainWord s off) (hd : t.dev = s.dev) (hr : t.romwin = s.romwin) : PlainWord t off := by
  obtain ⟨notSfr, low, high, window⟩ := h
  refine ⟨notSfr, hd ▸ low, hd ▸ high, ?_⟩
  simpa only [State.throughWindow, State.inWindow, hd, hr] using window

/-- A pop from an ordinary word gives its two bytes and moves SSP up. -/
theorem pop16_plain {v : Word} (h : PlainWord s (s.ssp + 2)) (hl : s.cell (key 0 (evenOff (s.ssp + 2))) = some (loByte v))
    (hh : s.cell (key 0 (evenOff (s.ssp + 2)) + 1) = some (hiByte v)) : pop16 s = .ok (v, s.setSsp (s.ssp + 2)) := by
  obtain ⟨notSfr, low, high, window⟩ := h.congr (t := s.setSsp (s.ssp + 2)) rfl rfl
  rw [key_evenOff_succ] at high
  have read := memReadWord_plain (s := s.setSsp (s.ssp + 2)) notSfr low high hl hh
  rw [mkWord_hi_lo] at read
  simp only [pop16, State.setSsp_ssp, window, Bool.false_eq_true, if_false, read, res_ok_bind, res_pure]

/-- A push to ordinary memory changes the two bytes of its word and moves SSP down. -/
theorem push16_stored (v : Word) (plain : PlainWord s s.ssp) :
    ∃ t, push16 s v = .ok t ∧ t = (s.setData t.data).setSsp (s.ssp - 2) ∧
      t.cell (key 0 (evenOff s.ssp)) = some (loByte v) ∧ t.cell (key 0 (evenOff s.ssp) + 1) = some (hiByte v) ∧
      SameCells (wordBytes 0 s.ssp) s t := by
  obtain ⟨notSfr, low, high, window⟩ := plain
  rw [key_evenOff_succ] at high
  obtain ⟨r, written, -, data, kept⟩ := memWriteWord_reads_back v notSfr low high
  obtain ⟨lowByte, highByte⟩ := memWriteWord_cells notSfr written
  have ssp : r.ssp = s.ssp := by rw [data]; rfl
  refine ⟨r.setSsp (s.ssp - 2), ?_, congrArg (·.setSsp (s.ssp - 2)) data, lowByte, highByte, kept⟩
  rw [push16, window, if_neg Bool.false_ne_true, written, res_ok_bind, res_pure, ssp]

/-- Settles O20: the pop finds SSP back at the word the push stored, which is still ordinary memory. -/
theorem popUndoesPush : Obligations.PopUndoesPush := by
  intro s v plain
  obtain ⟨t, pushed, state, low, high, kept⟩ := push16_stored v plain
  have ssp : t.ssp = s.ssp - 2 := by rw [state]; rfl
  have back : t.ssp + 2 = s.ssp := by rw [ssp]; exact BitVec.sub_add_cancel _ _
  have still : PlainWord t s.ssp := plain.congr (by rw [state]; rfl) (by rw [state]; rfl)
  have popped := pop16_plain (s := t) (v := v) (back.symm ▸ still) (back.symm ▸ low) (back.symm ▸ high)
  rw [back] at popped
  exact ⟨t, pushed, ssp, low, high, kept, state, popped⟩

end

/-! ## Resets (R86, R501 to R504) -/

section
variable {s t u : State} {pc : Word}

/-- The PSW after a system reset holds the bits of PSW_RESET that D2 leaves to the device, and 0 elsewhere. -/
theorem getLsbD_pswReset (s : State) (keep : Bool) (k : Nat) :
    (systemReset s keep).psw.getLsbD k = (s.dev.pswReset.getLsbD k && pswResetMask.getLsbD k) :=
  BitVec.getLsbD_and

/-- A system reset gives every register its value of R75. -/
theorem isReset_systemReset (s : State) (keep : Bool) : IsReset (systemReset s keep) := by
  have bit := getLsbD_pswReset s keep
  constructor
  case c | z | hc | dd | s | ov => exact (bit _).trans (Bool.and_false _)
  case mip | mie | mab | f1 | f0 => exact (bit _).trans (Bool.and_true _)
  case scb | bcb =>
    apply BitVec.eq_of_getLsbD_eq
    intro i hi
    simp only [Psw.scb, Psw.bcb, BitVec.getLsbD_extractLsb', bit]
    interval_cases i <;> simp [pswResetMask, systemReset]
  all_goals rfl

theorem IsReset.setPc (h : IsReset t) (pc : Word) : IsReset (t.setPc pc) := { h with }

/-- After a reset DD_FETCH is the DD of PSW already. -/
theorem IsReset.setDdFetch_dd (h : IsReset t) : t.setDdFetch (Psw.dd t.psw) = t := by
  rw [h.dd, ← h.ddFetch]; rfl

/-- What a reset leaves: the reset state with PC from the vector; it keeps program memory, the device and the offers, and data
memory and LRB where the device keeps them. -/
structure ResetInto (keep : Bool) (pc : Word) (s u : State) : Prop where
  isReset : IsReset u
  pc : u.pc = pc
  prog : u.prog = s.prog
  dev : u.dev = s.dev
  inputs : u.inputs = s.inputs
  ram : keep = true → u.data = s.data ∧ u.lrb = s.lrb

/-- A reset whose vector word can be read completes. -/
theorem takeReset_resets {keep : Bool} {vector : Word} (hpc : codeReadWord s 0 vector = .ok pc) :
    ∃ u, takeReset s keep vector = .ok u ∧ ResetInto keep pc s u := by
  have vectorWord : codeReadWord (systemReset s keep) 0 vector = .ok pc := (codeReadWord_congr rfl rfl 0 vector).trans hpc
  refine ⟨(systemReset s keep).setPc pc, ?_, (isReset_systemReset s keep).setPc pc, rfl, rfl, rfl, rfl, ?_⟩
  · simp only [takeReset, vectorWord, res_ok_bind, res_pure]
  · rintro rfl; exact ⟨rfl, rfl⟩

theorem retireSync_resets {keep : Bool} {vector : Word} (hpc : codeReadWord s 0 vector = .ok pc) :
    ∃ u, retireSync (takeReset s keep vector) = .next u ∧ ResetInto keep pc s u := by
  obtain ⟨u, taken, into⟩ := takeReset_resets (keep := keep) hpc
  exact ⟨u, by rw [taken, retireSync_ok, into.isReset.setDdFetch_dd], into⟩

theorem exec_brk (s : State) : exec .brk s = retireSync (takeReset s s.dev.warmResetKeepsRam 2) := rfl

theorem farOnly_near (k : Host.Outcome State Fault Refusal) (near : s.farCode = false) :
    farOnly s k = retireSync (takeReset s s.dev.warmResetKeepsRam 6) := by
  rw [farOnly, near]; rfl

/-- The far instructions are the op-code trap under the small and compact models, and nothing else (R504). -/
theorem exec_far_traps {i : Instr} (near : s.farCode = false)
    (hi : (∃ seg w, i = .fcal seg w) ∨ (∃ seg w, i = .fj seg w) ∨ i = .frt) :
    exec i s = retireSync (takeReset s s.dev.warmResetKeepsRam 6) := by
  obtain ⟨seg, w, rfl⟩ | ⟨seg, w, rfl⟩ | rfl := hi <;> exact farOnly_near _ near

/-- A step in which the environment's event is taken. -/
theorem step_event {slot : List Event} {rest : List (List Event)} {e : Event} (hin : s.inputs = slot :: rest)
    (he : pickEvent (s.setInputs rest) slot = some e) : step s = deliver (s.setInputs rest) e := by
  simp only [step, hin, he]

/-- A reset event answers the state its reset leaves. -/
theorem finish_resets {keep : Bool} {vector : Word} (hpc : codeReadWord s 0 vector = .ok pc) :
    ∃ u, finish (takeReset s keep vector) = .next u ∧ ResetInto keep pc s u := by
  obtain ⟨u, taken, into⟩ := takeReset_resets (keep := keep) hpc
  exact ⟨u, finish_next.mpr taken, into⟩

/-- Settles O51: each of the four is a reset through its own vector. -/
theorem resetOfEachKind : Obligations.ResetOfEachKind := by
  intro s pc
  refine ⟨fun i hi => ?_, fun slot rest hin => ⟨fun he hpc => ?_, fun he hpc => ?_⟩⟩
  · obtain ⟨rfl, hpc⟩ | ⟨near, hpc, hi⟩ := hi
    · obtain ⟨u, hu, r⟩ := retireSync_resets (keep := s.dev.warmResetKeepsRam) hpc
      exact ⟨u, (exec_brk s).trans hu, r.isReset, r.pc, r.prog, r.dev, r.inputs, r.ram⟩
    · obtain ⟨u, hu, r⟩ := retireSync_resets (keep := s.dev.warmResetKeepsRam) hpc
      exact ⟨u, (exec_far_traps near hi).trans hu, r.isReset, r.pc, r.prog, r.dev, r.inputs, r.ram⟩
  · obtain ⟨u, hu, r⟩ := finish_resets (s := s.setInputs rest) (keep := false) hpc
    exact ⟨u, (step_event hin he).trans hu, r.isReset, r.pc, r.prog, r.dev, r.inputs⟩
  · obtain ⟨u, hu, r⟩ := finish_resets (s := s.setInputs rest) (keep := s.dev.warmResetKeepsRam) hpc
    exact ⟨u, (step_event hin he).trans hu, r.isReset, r.pc, r.prog, r.dev, r.inputs, r.ram⟩

end

/-! ## The ROM window (R96, R102, R103) -/

section
variable {s : State} {off : Word}

theorem inWindow_iff : s.inWindow off = true ↔ s.romwin.toNat % 16 ≠ 0 ∧ s.romwin.toNat % 16 * 0x1000 ≤ off.toNat ∧
    off.toNat ≤ s.romwin.toNat / 16 * 0x1000 + 0xFFF := by
  have low : (s.romwin.extractLsb' 0 4).toNat = s.romwin.toNat % 16 := by simp
  have high : (s.romwin.extractLsb' 4 4).toNat = s.romwin.toNat / 16 := by
    have := s.romwin.isLt
    simp [Nat.shiftRight_eq_div_pow]; omega
  simp only [State.inWindow, low, high, Bool.and_eq_true, decide_eq_true_iff, and_assoc]

/-- An access through the window is a read of the table segment; a write faults (D20). -/
theorem data_through_window (h : s.throughWindow (s.physSeg off) off = true) :
    dReadByte s off = codeReadByte s s.tableSeg off ∧ dReadWord s off = codeReadWord s s.tableSeg off ∧
      (∀ v, dWriteByte s off v = .error (.fault .romWindowWrite)) ∧
      (∀ v, dWriteWord s off v = .error (.fault .romWindowWrite)) :=
  ⟨if_pos h, if_pos h, fun _ => if_pos h, fun _ => if_pos h⟩

/-- Any other access goes to data memory at DPhys(off). -/
theorem data_beside_window (h : s.throughWindow (s.physSeg off) off = false) :
    dReadByte s off = memReadByte s (s.physSeg off) off ∧ dReadWord s off = memReadWord s (s.physSeg off) off ∧
      (∀ v, dWriteByte s off v = memWriteByte s (s.physSeg off) off v) ∧
      (∀ v, dWriteWord s off v = memWriteWord s (s.physSeg off) off v) := by
  have no : ¬ s.throughWindow (s.physSeg off) off = true := Bool.not_eq_true _ ▸ h
  exact ⟨if_neg no, if_neg no, fun _ => if_neg no, fun _ => if_neg no⟩

/-- Settles O16: the nibbles of ROMWIN are the bounds, and internal memory is tested before the window (D14). -/
theorem romWindowReadsTableSegment : Obligations.RomWindowReadsTableSegment := by
  intro s off
  refine ⟨inWindow_iff, fun inside external => data_through_window ?_, fun h => data_beside_window ?_⟩
  · rw [State.throughWindow, inside, external]; rfl
  · obtain outside | internal := h
    · rw [State.throughWindow, outside, Bool.false_and]
    · rw [State.throughWindow, internal, Bool.not_true, Bool.and_false]

end

/-! ## The SFR area (R108) -/

section
variable {s : State} {off : Word} (hs : isSfr 0 off = true)
include hs

theorem memReadByte_sfr (s : State) : memReadByte s 0 off = sfrRead s off := if_pos hs

theorem memWriteByte_sfr (s : State) (v : Byte) : memWriteByte s 0 off v = sfrWrite s off v := if_pos hs

/-! The registers the device places. -/

theorem memReadByte_accL (h : sfrAt s.dev off.toNat = .accL) : memReadByte s 0 off = .ok (loByte s.a) := by
  rw [memReadByte_sfr hs]; simp only [sfrRead, h]
theorem memReadByte_accH (h : sfrAt s.dev off.toNat = .accH) : memReadByte s 0 off = .ok (hiByte s.a) := by
  rw [memReadByte_sfr hs]; simp only [sfrRead, h]
theorem memReadByte_tsr (h : sfrAt s.dev off.toNat = .tsr) : memReadByte s 0 off = .ok s.tsr := by
  rw [memReadByte_sfr hs]; simp only [sfrRead, h]
theorem memReadByte_dsr (h : sfrAt s.dev off.toNat = .dsr) : memReadByte s 0 off = .ok s.dsr := by
  rw [memReadByte_sfr hs]; simp only [sfrRead, h]
theorem memReadByte_romwin (h : sfrAt s.dev off.toNat = .romwin) : memReadByte s 0 off = .ok s.romwin := by
  rw [memReadByte_sfr hs]; simp only [sfrRead, h]

theorem memWriteByte_accL (v : Byte) (h : sfrAt s.dev off.toNat = .accL) :
    memWriteByte s 0 off v = .ok (s.setA (mkWord (hiByte s.a) v)) := by
  rw [memWriteByte_sfr hs]; simp only [sfrWrite, h, setLo]
theorem memWriteByte_accH (v : Byte) (h : sfrAt s.dev off.toNat = .accH) :
    memWriteByte s 0 off v = .ok (s.setA (mkWord v (loByte s.a))) := by
  rw [memWriteByte_sfr hs]; simp only [sfrWrite, h, setHi]
theorem memWriteByte_tsr (v : Byte) (h : sfrAt s.dev off.toNat = .tsr) :
    memWriteByte s 0 off v = .ok (s.setTsrRaw (v &&& segMask s.dev.tsrBits)) := by
  rw [memWriteByte_sfr hs]; simp only [sfrWrite, h, State.setTsr]
theorem memWriteByte_dsr (v : Byte) (h : sfrAt s.dev off.toNat = .dsr) :
    memWriteByte s 0 off v = .ok (s.setDsrRaw (v &&& segMask s.dev.dsrBits)) := by
  rw [memWriteByte_sfr hs]; simp only [sfrWrite, h, State.setDsr]
theorem memWriteByte_romwin (v : Byte) (h : sfrAt s.dev off.toNat = .romwin) :
    memWriteByte s 0 off v = .ok (if s.romwinWritten then s else s.setRomwinRaw v true) := by
  rw [memWriteByte_sfr hs]; simp only [sfrWrite, h, State.setRomwin]

/-! An operand at an SFR offset: below every end of the common area and below every ROM window. -/

theorem toNat_le_of_isSfr : off.toNat ≤ 0x1FF := by
  simp only [isSfr, Bool.and_eq_true, decide_eq_true_iff] at hs
  exact hs.2

theorem physSeg_sfr (s : State) : s.physSeg off = 0 :=
  physSeg_common (by have := toNat_le_of_isSfr hs; have := (commonLimit_bounds (Psw.bcb s.psw)).1; omega)

theorem throughWindow_sfr (s : State) (seg : Byte) : s.throughWindow seg off = false := by
  have outside : s.inWindow off = false := by
    rw [← Bool.not_eq_true, inWindow_iff]
    have := toNat_le_of_isSfr hs
    omega
  rw [State.throughWindow, outside, Bool.false_and]

/-- Whatever BCB, DSR and ROMWIN hold, a data access at an SFR offset is an access of the SFR area. -/
theorem data_sfr (s : State) : dReadByte s off = memReadByte s 0 off ∧ dReadWord s off = memReadWord s 0 off ∧
    (∀ v, dWriteByte s off v = memWriteByte s 0 off v) ∧ (∀ v, dWriteWord s off v = memWriteWord s 0 off v) := by
  have access := data_beside_window (throughWindow_sfr hs s (s.physSeg off))
  rwa [physSeg_sfr hs s] at access

theorem rdB_sfr (s : State) : rdB (.data off) s = memReadByte s 0 off := (data_sfr hs s).1

theorem wrB_sfr (s : State) (v : Byte) : wrB (.data off) v s = memWriteByte s 0 off v := (data_sfr hs s).2.2.1 v

theorem rdW_sfr (h : sfrOddWord s off = false) : rdW (.data off) s = memReadWord s 0 off := by
  rw [rdW, h]; exact (data_sfr hs s).2.1

theorem wrW_sfr (x : Word) (h : sfrOddWord s off = false) : wrW (.data off) x s = memWriteWord s 0 off x := by
  rw [wrW, h]; exact (data_sfr hs s).2.2.2 x

end

section
variable (s : State) (x : Word) (a v : Byte)

theorem toNat_zext (a : Byte) : (zext a).toNat = a.toNat := by
  simp [zext]; omega

/-- Sfr addressing reaches the first 256 bytes of the SFR area. -/
theorem isSfr_zext (a : Byte) : isSfr 0 (zext a) = true := by
  have := a.isLt
  simp only [isSfr, toNat_zext, Bool.and_eq_true, decide_eq_true_iff]
  exact ⟨rfl, by omega⟩

theorem exec_movbSfrImm : exec (.movbSfrImm a v) s = retire s (memWriteByte s 0 (zext a) v) := by
  rw [← wrB_sfr (isSfr_zext a)]
  exact exec_shape s (sh := .constB (.mem (.sfr a)) v) rfl

theorem exec_movSfrImm (h : (zext a).getLsbD 0 = false) :
    exec (.movSfrImm a x) s = retire s (memWriteWord s 0 (zext a) x) := by
  rw [← wrW_sfr (isSfr_zext a) x (sfrOddWord_even h)]
  exact exec_shape s (sh := .constW (.mem (.sfr a)) x) rfl

/-! SSP, LRB and PSW, at their fixed addresses. -/

/-- A word written half by half. -/
theorem setHi_setLo (w x : Word) : setHi (setLo w (loByte x)) (hiByte x) = x := by
  rw [setHi, setLo, loByte_mkWord, mkWord_hi_lo]

theorem memReadWord_ssp : memReadWord s 0 0 = .ok s.ssp := memReadWord_of_halves rfl rfl
theorem memReadWord_lrb : memReadWord s 0 2 = .ok s.lrb := memReadWord_of_halves rfl rfl
theorem memReadWord_psw : memReadWord s 0 4 = .ok s.psw := memReadWord_of_halves rfl rfl

theorem memWriteWord_ssp : memWriteWord s 0 0 x = .ok (s.setSsp x) := by
  have halves := memWriteWord_of_bytes (s := s) (seg := 0) (off := 0) (v := x)
    (u := s.setSsp (setHi (setLo s.ssp (loByte x)) (hiByte x))) rfl rfl
  rwa [setHi_setLo] at halves
theorem memWriteWord_lrb : memWriteWord s 0 2 x = .ok (s.setLrb x) := by
  have halves := memWriteWord_of_bytes (s := s) (seg := 0) (off := 2) (v := x)
    (u := s.setLrb (setHi (setLo s.lrb (loByte x)) (hiByte x))) rfl rfl
  rwa [setHi_setLo] at halves
theorem memWriteWord_psw : memWriteWord s 0 4 x = .ok (s.setPsw x) := by
  have halves := memWriteWord_of_bytes (s := s) (seg := 0) (off := 4) (v := x)
    (u := s.setPsw (setHi (setLo s.psw (loByte x)) (hiByte x))) rfl rfl
  rwa [setHi_setLo] at halves

end

/-- Settles O17: the cell of each address, an operand there, and the MOV to it. -/
theorem registersInTheSfrArea : Obligations.RegistersInTheSfrArea := by
  intro s off x a v w hs
  have mov (b : Byte) {t : State} (h : memWriteByte s 0 (zext a) b = .ok t) :
      exec (.movbSfrImm a b) s = .next (t.setDdFetch (Psw.dd s.psw)) := by rw [exec_movbSfrImm, h, retire_ok]
  have movWord (c : Byte) {t : State} (even : (zext c).getLsbD 0 = false) (h : memWriteWord s 0 (zext c) x = .ok t) :
      exec (.movSfrImm c x) s = .next (t.setDdFetch (Psw.dd s.psw)) := by rw [exec_movSfrImm s x c even, h, retire_ok]
  have ha := isSfr_zext a
  rw [← toNat_zext a]
  refine ⟨⟨memReadWord_ssp s, memReadWord_lrb s, memReadWord_psw s, memWriteWord_ssp s x, memWriteWord_lrb s x,
      memWriteWord_psw s x, rfl, rfl, rfl, rfl, rfl, rfl, rfl, rfl, rfl, rfl, rfl, rfl⟩,
    fun h => ⟨memReadByte_accL hs h, memWriteByte_accL hs v h⟩, fun h => ⟨memReadByte_accH hs h, memWriteByte_accH hs v h⟩,
    fun h => ⟨memReadByte_tsr hs h, memWriteByte_tsr hs v h⟩, fun h => ⟨memReadByte_dsr hs h, memWriteByte_dsr hs v h⟩,
    fun h => ⟨memReadByte_romwin hs h, fun written => ?_, fun fresh => ⟨s.setRomwinRaw v true, ?_, rfl, ?_⟩⟩,
    ⟨rdB_sfr hs s, wrB_sfr hs s v, fun even => ⟨rdW_sfr hs even, wrW_sfr hs x even⟩⟩,
    movWord 0 rfl (memWriteWord_ssp s x), movWord 2 rfl (memWriteWord_lrb s x), movWord 4 rfl (memWriteWord_psw s x),
    fun h => mov v (memWriteByte_accL ha v h), fun h => mov v (memWriteByte_accH ha v h),
    fun h => mov v (memWriteByte_tsr ha v h), fun h => mov v (memWriteByte_dsr ha v h),
    fun h => mov v (memWriteByte_romwin ha v h)⟩
  · rw [memWriteByte_romwin hs v h, if_pos written]
  · rw [memWriteByte_romwin hs v h, fresh]; rfl
  · exact memWriteByte_romwin (s := s.setRomwinRaw v true) hs w h

/-! ## Calls through a vector (R88, R452) -/

section
variable {s t u : State} (v : Fin 16)

theorem vcalVector_eq : vcalVector v = 0x4A + 2 * BitVec.ofNat 16 v.val := by
  rw [vcalVector, BitVec.ofNat_add, BitVec.ofNat_mul]; rfl

theorem exec_vcal (s : State) : exec (.vcal v) s = execVcal v s := rfl

theorem exec_vcal_near {w : Word} (near : s.farCode = false) (hpc : push16 s s.pc = .ok t)
    (hw : codeReadWord t 0 (vcalVector v) = .ok w) :
    exec (.vcal v) s = .next ((t.setPc w).setDdFetch (Psw.dd s.psw)) := by
  simp only [exec_vcal, execVcal, near, Bool.false_eq_true, if_false, hpc, res_ok_bind, hw, res_pure, retire_ok]

/-- A far push of the return address: PC, then CSR, which the first push leaves. -/
theorem pushFar_ok (hpc : push16 s s.pc = .ok t) (hcsr : push16 t (zext s.csr) = .ok u) : pushFar s = .ok u := by
  rw [pushFar, hpc, res_ok_bind, (push16_wrote hpc).csr, hcsr]

theorem exec_vcal_far {w : Word} (far : s.farCode = true) (hpush : pushFar s = .ok u)
    (hw : codeReadWord (u.setCsr 0) 0 (vcalVector v) = .ok w) :
    exec (.vcal v) s = .next (((u.setCsr 0).setPc w).setDdFetch (Psw.dd s.psw)) := by
  simp only [exec_vcal, execVcal, far, if_true, hpush, res_ok_bind, hw, res_pure, retire_ok]

end

theorem setCsr_zero (s : State) : s.setCsr 0 = s.setCsrRaw 0 :=
  congrArg s.setCsrRaw BitVec.zero_and

/-- Settles O48: the pushes leave the vector word, which lies in program memory, as it was. -/
theorem vectorCallResult : Obligations.VectorCallResult := by
  intro s t u v w hw hpc
  rw [← vcalVector_eq] at hw
  have pushed := push16_wrote hpc
  refine ⟨fun near => exec_vcal_near v near hpc ((codeReadWord_congr pushed.prog pushed.dev 0 _).trans hw),
    fun far hcsr => ?_⟩
  have pushedCsr := push16_wrote hcsr
  rw [← setCsr_zero]
  refine exec_vcal_far v far (pushFar_ok hpc hcsr) ((codeReadWord_congr (s := s) ?_ ?_ 0 _).trans hw)
  · exact pushedCsr.prog.trans pushed.prog
  · exact pushedCsr.dev.trans pushed.dev

end Sys2Proof.Machine

/-! # The decoder reads back what the encoder writes -/

namespace Sys2Proof

open Sys2Proof.Machine

/- One thread, as in the tests: elaborating beside them would not fit the memory of the check. -/
set_option Elab.async false

/-- The decoder reads an instruction from `bytes`, whatever bytes follow, and takes no more of them. -/
def Reads (dev : Device) (dd : Bool) (bytes : List Byte) (i : Instr) : Prop :=
  ∀ rest, decode dev dd (bytes ++ rest) = .ok (i, bytes.length)

/-! ## Operand bytes behind a first byte (R132) -/

section
variable {dev : Device} {dd : Bool} {c s : Byte}

theorem arg2_lohi (pos : Nat) (f : Word → Instr) (w : Word) (rest : List Byte) :
    arg2 pos f (loByte w :: hiByte w :: rest) = .ok (f w, pos + 2) := by
  simp only [arg2, mkWord_hi_lo]

theorem arg12_lohi (pos : Nat) (f : Byte → Word → Instr) (a : Byte) (w : Word) (rest : List Byte) :
    arg12 pos f (a :: loByte w :: hiByte w :: rest) = .ok (f a w, pos + 3) := by
  simp only [arg12, mkWord_hi_lo]

theorem argFar_lohi (pos : Nat) (f : Byte → Word → Instr) (seg : Byte) (w : Word) (rest : List Byte) :
    argFar pos f (loByte w :: hiByte w :: seg :: rest) = .ok (f seg w, pos + 3) := by
  simp only [argFar, mkWord_hi_lo]

theorem argN7Native_byte (pos : Nat) (f : N7Base → BitVec 7 → Instr) (b : N7Base) (n : BitVec 7) (rest : List Byte) :
    argN7Native pos f (n7NativeByte b n :: rest) = .ok (f b n, pos + 1) := by
  cases b <;> simp [argN7Native, n7NativeByte]

theorem argN7Suffix_byte (pos : Nat) (f : N7Base → BitVec 7 → Instr) (b : N7Base) (n : BitVec 7) (rest : List Byte) :
    argN7Suffix pos f (n7SuffixByte b n :: rest) = .ok (f b n, pos + 1) := by
  cases b <;> simp [argN7Suffix, n7SuffixByte]

theorem Reads.word {f : Word → Instr} (w : Word) (h : ∀ t, decode dev dd (c :: t) = arg2 1 f t) :
    Reads dev dd [c, loByte w, hiByte w] (f w) := fun rest => (h _).trans (arg2_lohi 1 f w rest)

theorem Reads.byteWord {f : Byte → Word → Instr} (a : Byte) (w : Word) (h : ∀ t, decode dev dd (c :: t) = arg12 1 f t) :
    Reads dev dd [c, a, loByte w, hiByte w] (f a w) := fun rest => (h _).trans (arg12_lohi 1 f a w rest)

theorem Reads.n7 {f : N7Base → BitVec 7 → Instr} (b : N7Base) (n : BitVec 7)
    (h : ∀ t, decode dev dd (c :: t) = argN7Native 1 f t) : Reads dev dd [c, n7NativeByte b n] (f b n) :=
  fun rest => (h _).trans (argN7Native_byte 1 f b n rest)

theorem Reads.word₂ {f : Word → Instr} (w : Word) (h : ∀ t, decode dev dd (c :: s :: t) = arg2 2 f t) :
    Reads dev dd [c, s, loByte w, hiByte w] (f w) := fun rest => (h _).trans (arg2_lohi 2 f w rest)

theorem Reads.far {f : Byte → Word → Instr} (seg : Byte) (w : Word) (h : ∀ t, decode dev dd (c :: s :: t) = argFar 2 f t) :
    Reads dev dd [c, s, loByte w, hiByte w, seg] (f seg w) := fun rest => (h _).trans (argFar_lohi 2 f seg w rest)

end

/-! ## Suffixes behind the prefixes of R140 and R141 (R161) -/

section
variable {dev : Device} {dd : Bool} {s : Byte} {i : Instr}

/-- A suffix of the word map that takes the bytes `args`. -/
theorem Reads.afterW {p : WOp} (hp : p.notAcc = true) (args : List Byte)
    (h : ∀ n t, suffixW n p s (args ++ t) = .ok (i, n + args.length)) : Reads dev dd (encodeW p ++ s :: args) i := by
  intro rest
  rw [List.append_assoc, List.cons_append, decode_encodeW dev dd p hp, h, List.length_append, List.length_cons,
    Nat.add_assoc, Nat.add_comm 1]

theorem Reads.afterB {p : BOp} (hp : p.notAcc = true) (args : List Byte)
    (h : ∀ n t, suffixB n p s (args ++ t) = .ok (i, n + args.length)) : Reads dev dd (encodeB p ++ s :: args) i := by
  intro rest
  rw [List.append_assoc, List.cons_append, decode_encodeB dev dd p hp, h, List.length_append, List.length_cons,
    Nat.add_assoc, Nat.add_comm 1]

theorem Reads.afterW_word {p : WOp} {f : Word → Instr} (hp : p.notAcc = true) (w : Word)
    (h : ∀ n t, suffixW n p s t = arg2 n f t) : Reads dev dd (encodeW p ++ [s, loByte w, hiByte w]) (f w) :=
  .afterW hp [loByte w, hiByte w] fun n t => (h n _).trans (arg2_lohi n f w t)

theorem Reads.afterB_word {p : BOp} {f : Word → Instr} (hp : p.notAcc = true) (w : Word)
    (h : ∀ n t, suffixB n p s t = arg2 n f t) : Reads dev dd (encodeB p ++ [s, loByte w, hiByte w]) (f w) :=
  .afterB hp [loByte w, hiByte w] fun n t => (h n _).trans (arg2_lohi n f w t)

theorem Reads.afterW_n7 {p : WOp} {f : N7Base → BitVec 7 → Instr} (hp : p.notAcc = true) (b : N7Base) (n : BitVec 7)
    (h : ∀ pos t, suffixW pos p s t = argN7Suffix pos f t) : Reads dev dd (encodeW p ++ [s, n7SuffixByte b n]) (f b n) :=
  .afterW hp [n7SuffixByte b n] fun pos t => (h pos _).trans (argN7Suffix_byte pos f b n t)

theorem Reads.afterB_n7 {p : BOp} {f : N7Base → BitVec 7 → Instr} (hp : p.notAcc = true) (b : N7Base) (n : BitVec 7)
    (h : ∀ pos t, suffixB pos p s t = argN7Suffix pos f t) : Reads dev dd (encodeB p ++ [s, n7SuffixByte b n]) (f b n) :=
  .afterB hp [n7SuffixByte b n] fun pos t => (h pos _).trans (argN7Suffix_byte pos f b n t)

theorem WOp.eq_acc {p : WOp} (h : p.notAcc = false) : p = .acc := by
  cases p with
  | acc => rfl
  | _ => cases h

theorem BOp.eq_acc {p : BOp} (h : p.notAcc = false) : p = .acc := by
  cases p with
  | acc => rfl
  | _ => cases h

/-! A suffix that BC, the accumulator's own code, shares with the other operands (R147). -/

theorem Reads.afterAnyW {p : WOp} (args : List Byte)
    (hacc : p = .acc → ∀ t, suffixBC dd s (args ++ t) = .ok (i, 2 + args.length))
    (h : ∀ n t, suffixW n p s (args ++ t) = .ok (i, n + args.length)) : Reads dev dd (encodeW p ++ s :: args) i := by
  cases hp : p.notAcc with
  | true => exact .afterW hp args h
  | false =>
    obtain rfl := WOp.eq_acc hp
    intro t
    rw [List.length_append, List.length_cons, Nat.add_comm args.length, ← Nat.add_assoc]
    exact hacc rfl t

theorem Reads.afterAnyB {p : BOp} (args : List Byte)
    (hacc : p = .acc → ∀ t, suffixBC dd s (args ++ t) = .ok (i, 2 + args.length))
    (h : ∀ n t, suffixB n p s (args ++ t) = .ok (i, n + args.length)) : Reads dev dd (encodeB p ++ s :: args) i := by
  cases hp : p.notAcc with
  | true => exact .afterB hp args h
  | false =>
    obtain rfl := BOp.eq_acc hp
    intro t
    rw [List.length_append, List.length_cons, Nat.add_comm args.length, ← Nat.add_assoc]
    exact hacc rfl t

theorem Reads.afterAnyW_word {p : WOp} {f : Word → Instr} (w : Word)
    (hacc : p = .acc → ∀ t, suffixBC dd s t = arg2 2 f t) (h : ∀ n t, suffixW n p s t = arg2 n f t) :
    Reads dev dd (encodeW p ++ [s, loByte w, hiByte w]) (f w) :=
  .afterAnyW [loByte w, hiByte w] (fun hp t => (hacc hp _).trans (arg2_lohi 2 f w t)) fun n t =>
    (h n _).trans (arg2_lohi n f w t)

end

/-! ## Suffixes no row lists (R147, R161, R165) -/

/-! The holes of each column of R161 and of R147, written out. -/

theorem not_listedW {prn x1 : Bool} {x : Nat} (h : listedW prn x1 x = false) (hx : x < 0x100) :
    (prn = false ∧ x = 0xEA) ∨ (x1 = false ∧ (x = 0xB6 ∨ x = 0xB7 ∨ x = 0xFA)) ∨ x < 0x70 ∨ (0x78 ≤ x ∧ x < 0x80) ∨
      (0xB8 ≤ x ∧ x < 0xBC) ∨ (0xCA ≤ x ∧ x < 0xD0) ∨ (0xDC ≤ x ∧ x < 0xE0) ∨ (0xE8 ≤ x ∧ x < 0xEA) ∨ 0xFC ≤ x := by
  simp only [listedW, neverSuffix, Bool.or_eq_true, Bool.and_eq_true, decide_eq_true_eq, beq_iff_eq] at h
  split at h
  · omega
  split at h
  · simp only [h, true_and]; omega
  split at h
  · simp only [h, true_and]; omega
  · simp only [Bool.not_eq_false', Bool.or_eq_true, Bool.and_eq_true, decide_eq_true_eq, beq_iff_eq] at h; omega

theorem not_listedB {pswl : Bool} {x : Nat} (h : listedB pswl x = false) (hx : x < 0x100) :
    (pswl = false ∧ (x = 0xB6 ∨ x = 0xB7 ∨ 0xFC ≤ x)) ∨ (0x68 ≤ x ∧ x < 0x70) ∨ (0x78 ≤ x ∧ x < 0x80) ∨
      (0xC9 ≤ x ∧ x < 0xCA) ∨ (0xCB ≤ x ∧ x < 0xD0) ∨ (0xD8 ≤ x ∧ x < 0xE0) ∨ (0xE6 ≤ x ∧ x < 0xEA) ∨
      (0xEB ≤ x ∧ x < 0xEC) ∨ (0xF6 ≤ x ∧ x < 0xF8) ∨ (0xFA ≤ x ∧ x < 0xFC) := by
  simp only [listedB, neverSuffix, Bool.or_eq_true, Bool.and_eq_true, decide_eq_true_eq, beq_iff_eq] at h
  split at h
  · omega
  split at h
  · simp only [h, true_and]; omega
  · simp only [Bool.not_eq_false', Bool.or_eq_true, Bool.and_eq_true, decide_eq_true_eq, beq_iff_eq] at h; omega

theorem not_listedBC {x : Nat} (h : listedBC x = false) :
    (0x68 ≤ x ∧ x < 0x8C) ∨ (0x90 ≤ x ∧ x < 0x99) ∨ (0x9A ≤ x ∧ x < 0x9C) ∨ (0xA0 ≤ x ∧ x < 0xA6) ∨
      (0xA8 ≤ x ∧ x < 0xA9) ∨ (0xAA ≤ x ∧ x < 0xAC) ∨ (0xB0 ≤ x ∧ x < 0xBC) ∨ (0xC0 ≤ x ∧ x < 0xC9) ∨
      (0xCA ≤ x ∧ x < 0xD7) ∨ (0xD8 ≤ x ∧ x < 0xDA) ∨ (0xDC ≤ x ∧ x < 0xE3) ∨ (0xE4 ≤ x ∧ x < 0xE7) ∨
      (0xE8 ≤ x ∧ x < 0xEA) ∨ (0xF0 ≤ x ∧ x < 0xF3) ∨ (0xF4 ≤ x ∧ x < 0xF7) ∨ 0xF8 ≤ x := by
  simp only [listedBC, Bool.or_eq_false_iff, Bool.and_eq_false_iff, decide_eq_false_iff_not, beq_eq_false_iff_ne] at h
  omega

/-! The suffix maps answer the bare operand code at every hole, byte by byte. -/

theorem suffixW_unlisted {p : WOp} {s : Byte} {prn : Bool} (pos : Nat) (rest : List Byte)
    (hprn : ∀ n, p = .pr n → prn = true) (h : listedW prn (decide (p = .pr .x1)) s.toNat = false) :
    suffixW pos p s rest = arg0 pos (unlistedW p s) := by
  have lt := s.isLt
  have hole := not_listedW h lt
  unfold suffixW
  generalize s.toNat = x at lt hole
  obtain ⟨notPr, rfl⟩ | ⟨notX1, hx⟩ | hx := hole
  · cases p with
    | pr n => exact absurd ((hprn n rfl).symm.trans notPr) nofun
    | _ => rfl
  · have notX1 : p ≠ .pr .x1 := of_decide_eq_false notX1
    obtain rfl | rfl | rfl := hx <;> simp [notX1]
  · obtain hi | ⟨lo, hi⟩ | ⟨lo, hi⟩ | ⟨lo, hi⟩ | ⟨lo, hi⟩ | ⟨lo, hi⟩ | lo := hx
    all_goals interval_cases x <;> rfl

theorem suffixB_unlisted {p : BOp} {s : Byte} (pos : Nat) (rest : List Byte)
    (h : listedB (decide (p = .pswl)) s.toNat = false) : suffixB pos p s rest = arg0 pos (unlistedB p s) := by
  have lt := s.isLt
  have hole := not_listedB h lt
  unfold suffixB
  generalize s.toNat = x at lt hole
  obtain ⟨notPswl, hx⟩ | hx := hole
  · have notPswl : p ≠ .pswl := of_decide_eq_false notPswl
    obtain rfl | rfl | lo := hx
    · simp [notPswl]
    · simp [notPswl]
    · interval_cases x <;> simp [notPswl]
  · obtain ⟨lo, hi⟩ | ⟨lo, hi⟩ | ⟨lo, hi⟩ | ⟨lo, hi⟩ | ⟨lo, hi⟩ | ⟨lo, hi⟩ | ⟨lo, hi⟩ | ⟨lo, hi⟩ | ⟨lo, hi⟩ := hx
    all_goals interval_cases x <;> rfl

theorem suffixBC_unlisted {s : Byte} (dd : Bool) (rest : List Byte) (h : listedBC s.toNat = false) :
    suffixBC dd s rest = arg0 2 (.pfxWA s) := by
  have lt := s.isLt
  have hole := not_listedBC h
  unfold suffixBC
  generalize s.toNat = x at lt hole
  obtain ⟨lo, hi⟩ | ⟨lo, hi⟩ | ⟨lo, hi⟩ | ⟨lo, hi⟩ | ⟨lo, hi⟩ | ⟨lo, hi⟩ | ⟨lo, hi⟩ | ⟨lo, hi⟩ | ⟨lo, hi⟩ | ⟨lo, hi⟩ |
    ⟨lo, hi⟩ | ⟨lo, hi⟩ | ⟨lo, hi⟩ | ⟨lo, hi⟩ | ⟨lo, hi⟩ | lo := hole
  all_goals interval_cases x <;> rfl

section
variable {dev : Device} {dd : Bool} {s : Byte}

theorem Reads.bareW {p : WOp} {prn : Bool} (hp : p.notAcc = true) (hprn : ∀ n, p = .pr n → prn = true)
    (h : (!listedW prn (decide (p = .pr .x1)) s.toNat) = true) : Reads dev dd (encodeW p ++ [s]) (unlistedW p s) :=
  .afterW hp [] fun pos t => suffixW_unlisted pos t hprn ((Bool.not_eq_true' _).mp h)

theorem Reads.bareB {p : BOp} (hp : p.notAcc = true) (h : (!listedB (decide (p = .pswl)) s.toNat) = true) :
    Reads dev dd (encodeB p ++ [s]) (unlistedB p s) :=
  .afterB hp [] fun pos t => suffixB_unlisted pos t ((Bool.not_eq_true' _).mp h)

theorem Reads.bareBC (h : (!listedBC s.toNat) = true) : Reads dev dd (encodeW .acc ++ [s]) (.pfxWA s) :=
  fun t => suffixBC_unlisted dd t ((Bool.not_eq_true' _).mp h)

end

/-! ## Codes whose second byte selects the instruction -/

section
variable {dev : Device} {dd : Bool} {fsb frb : Fin 8 → BitVec 6 → Instr} {fjbs fjbr : Fin 8 → BitVec 6 → Byte → Instr}
  (bit : Fin 8) (k : BitVec 6) (t : List Byte)

theorem decodeSba_sb : decodeSba bit fsb frb fjbs fjbr (sbaByte 0 k :: t) = .ok (fsb bit k, 2) := by
  simp [decodeSba, arg0]
theorem decodeSba_rb : decodeSba bit fsb frb fjbs fjbr (sbaByte 1 k :: t) = .ok (frb bit k, 2) := by
  simp [decodeSba, arg0]
theorem decodeSba_jbs (d : Byte) : decodeSba bit fsb frb fjbs fjbr (sbaByte 2 k :: d :: t) = .ok (fjbs bit k d, 3) := by
  simp [decodeSba, arg1]
theorem decodeSba_jbr (d : Byte) : decodeSba bit fsb frb fjbs fjbr (sbaByte 3 k :: d :: t) = .ok (fjbr bit k d, 3) := by
  simp [decodeSba, arg1]

theorem decode_sbafix : decode dev dd (codePlus 0x58 bit.val :: t) =
    decodeSba bit .sbSbafix .rbSbafix .jbsSbafix .jbrSbafix t := by
  fin_cases bit <;> rfl
theorem decode_sbaoff : decode dev dd (codePlus 0x48 bit.val :: t) =
    decodeSba bit .sbSbaoff .rbSbaoff .jbsSbaoff .jbrSbaoff t := by
  fin_cases bit <;> rfl

/-- DJNZ R4 and DJNZ R5 share a code; bit 7 of the displacement byte selects the register (R153). -/
theorem decode_djnzR45 (b : Bool) (d : BitVec 7) :
    decode dev dd (0x05 :: n7Byte b d :: t) = .ok (if b then .djnzR5 d else .djnzR4 d, 2) := by
  show arg1 1 (fun b => if bit7 b then .djnzR5 (low7 b) else .djnzR4 (low7 b)) (n7Byte b d :: t) = _
  simp only [arg1, bit7_n7Byte, low7_n7Byte]

end

/-! ## Codes the device gives a meaning -/

section
variable {dev : Device} {dd : Bool}

theorem decode_mask (m : Byte) (t : List Byte) : decode dev dd (0x06 :: m :: t) = decodeMask dev (m :: t) := rfl

/-- The mask byte of a list the device can encode leads back to the list (R241). -/
theorem maskByte_reads {d : StackDir} {l : RegList} (h : listOk dev d l = true) :
    ∃ tbl, dev.regMask = some tbl ∧ maskLookup tbl (maskByte dev d l) = some (d, l) := by
  unfold listOk at h
  split at h
  · simp at h
  · next tbl hr =>
    obtain ⟨m, hm, hl⟩ := maskLookup_maskOf (Bool.and_eq_true _ _ ▸ h).2
    exact ⟨tbl, hr, by simpa only [maskByte, hr, hm] using hl⟩

theorem reads_pushs {l : RegList} (h : listOk dev .push l = true) : Reads dev dd [0x06, maskByte dev .push l] (.pushs l) := by
  obtain ⟨tbl, hr, hl⟩ := maskByte_reads h
  intro t
  simp only [List.cons_append, decode_mask, decodeMask, hr, hl, List.length_cons, List.length_nil]

theorem reads_pops {l : RegList} (h : listOk dev .pop l = true) : Reads dev dd [0x06, maskByte dev .pop l] (.pops l) := by
  obtain ⟨tbl, hr, hl⟩ := maskByte_reads h
  intro t
  simp only [List.cons_append, decode_mask, decodeMask, hr, hl, List.length_cons, List.length_nil]

/-- First bytes 54 to 57 are what ACAL_HI says of them (D8). -/
theorem decode_free {n : Nat} (hn : n < 4) (t : List Byte) : decode dev dd (codePlus 0x54 n :: t) =
    match acalHiAt dev.acalHi (codePlus 0x54 n) with
    | some h => arg1 1 (.acal (bitOf (4 + h.val))) t
    | none => arg0 1 (.unassigned (fin4Of n)) := by
  interval_cases n <;> rfl

/-- First bytes 44 to 47 (R150). -/
theorem decode_acal {n : Nat} (hn : n < 4) (t : List Byte) :
    decode dev dd (codePlus 0x44 n :: t) = arg1 1 (.acal (bitOf n)) t := by
  interval_cases n <;> rfl

theorem reads_acal {h : Fin 8} {lo : Byte} (hw : WellFormed dev (.acal h lo) = true) :
    Reads dev dd [acalByte dev h, lo] (.acal h lo) := by
  intro t
  by_cases low : h.val < 4
  · have back : bitOf h.val = h := Fin.ofNat_val_eq_self h
    rw [acalByte, if_pos low, List.cons_append, decode_acal low, back]
    rfl
  · have high : acalHiOk dev h = true := (Bool.or_eq_true _ _ ▸ hw).resolve_left (low <| of_decide_eq_true ·)
    obtain ⟨n, hn, hb, k, hk, hh⟩ := acalHiAt_acalByte (Nat.le_of_not_lt low) high
    have back : bitOf (4 + k.val) = h := by rw [hh]; exact Fin.ofNat_val_eq_self h
    rw [hb, List.cons_append, decode_free hn, hk]
    simp only [back]
    rfl

theorem reads_unassigned {lo : Fin 4} (hw : WellFormed dev (.unassigned lo) = true) :
    Reads dev dd [codePlus 0x54 lo.val] (.unassigned lo) := by
  intro t
  rw [List.cons_append, decode_free lo.isLt, acalHiAt_none hw]
  exact congrArg (fun n => arg0 1 (.unassigned n)) (Fin.ofNat_val_eq_self lo)

end

/-! ## Every instruction -/

/-- The bytes of a well-formed instruction are read back as it under the DD_FETCH it needs, PUSHS A aside. -/
theorem reads_encode {dev : Device} {dd : Bool} {i : Instr} (hw : WellFormed dev i = true)
    (hd : ∀ b, ddNeed i = some b → dd = b) (hp : i ≠ .pushsA) : Reads dev dd (encode dev i) (canon i) := by
  cases i
  /- The operand comes first (R140, R141), then a suffix of the maps of R161. -/
  case movAW p | movX1W p | movDpDecW p | movDpW p | movDpIncW p | movX1AW p | movX1R0W p | movWA p | clrW p |
    fillW p | xchgAW p | incW p | decW p | addAW p | addWA p | adcAW p | adcWA p | subAW p | subWA p | sbcAW p |
    sbcWA p | cmpAW p | cmpWA p | mulW p | divW p | divqW p | andAW p | andWA p | orAW p | orWA p | xorAW p |
    xorWA p | cmpcAInd p | cmpcbAInd p => exact .afterW hw [] fun _ _ => rfl
  case movFixW a p | movOffW a p | movSfrW a p | addWFix p a | addWOff p a | addWSfr p a | adcWFix p a |
    adcWOff p a | adcWSfr p a | subWFix p a | subWOff p a | subWSfr p a | sbcWFix p a | sbcWOff p a | sbcWSfr p a |
    cmpWFix p a | cmpWOff p a | cmpWSfr p a | andWFix p a | andWOff p a | andWSfr p a | orWFix p a | orWOff p a |
    orWSfr p a | xorWFix p a | xorWOff p a | xorWSfr p a | tjzW p d | tjnzW p d => exact .afterW hw [_] fun _ _ => rfl
  case movWImm p v | addWImm p v | adcWImm p v | subWImm p v | sbcWImm p v | cmpWImm p v | andWImm p v | orWImm p v |
    xorWImm p v | cmpcAT16 p w | cmpcbAT16 p w => exact .afterW_word hw _ fun _ _ => rfl
  case movD16X1W w p => exact .afterW_word (f := fun w => .movD16X1W w p) hw w fun _ _ => rfl
  case movD16X2W w p => exact .afterW_word (f := fun w => .movD16X2W w p) hw w fun _ _ => rfl
  case movDirW w p => exact .afterW_word (f := fun w => .movDirW w p) hw w fun _ _ => rfl
  case movN7W b n p => exact .afterW_n7 (f := fun b n => .movN7W b n p) hw b n fun _ _ => rfl
  case movErW n p | movPrW n p => cases n <;> exact .afterW hw [] fun _ _ => rfl
  case sllWWidth p k | srlWWidth p k | sraWWidth p k | rolWWidth p k | rorWWidth p k =>
    fin_cases k <;> exact .afterW hw [] fun _ _ => rfl
  case movbAB p | movbX1B p | movbDpDecB p | movbDpB p | movbDpIncB p | movbX1AB p | movbX1R0B p | movbBA p |
    clrbB p | fillbB p | xchgbAB p | incbB p | decbB p | addbAB p | addbBA p | adcbAB p | adcbBA p | subbAB p |
    subbBA p | sbcbAB p | sbcbBA p | cmpbAB p | cmpbBA p | mulbB p | divbB p | andbAB p | andbBA p | orbAB p |
    orbBA p | xorbAB p | xorbBA p | sbrB p | rbrB p | tbrB p | mbrCB p | mbrBC p => exact .afterB hw [] fun _ _ => rfl
  case movbFixB a p | movbOffB a p | movbSfrB a p | movbBImm p v | addbBFix p a | addbBOff p a | addbBSfr p a |
    addbBImm p v | adcbBFix p a | adcbBOff p a | adcbBSfr p a | adcbBImm p v | subbBFix p a | subbBOff p a |
    subbBSfr p a | subbBImm p v | sbcbBFix p a | sbcbBOff p a | sbcbBSfr p a | sbcbBImm p v | cmpbBFix p a |
    cmpbBOff p a | cmpbBSfr p a | cmpbBImm p v | andbBFix p a | andbBOff p a | andbBSfr p a | andbBImm p v |
    orbBFix p a | orbBOff p a | orbBSfr p a | orbBImm p v | xorbBFix p a | xorbBOff p a | xorbBSfr p a |
    xorbBImm p v | tjzbB p d | tjnzbB p d => exact .afterB hw [_] fun _ _ => rfl
  case movbD16X1B w p => exact .afterB_word (f := fun w => .movbD16X1B w p) hw w fun _ _ => rfl
  case movbD16X2B w p => exact .afterB_word (f := fun w => .movbD16X2B w p) hw w fun _ _ => rfl
  case movbDirB w p => exact .afterB_word (f := fun w => .movbDirB w p) hw w fun _ _ => rfl
  case movbN7B b n p => exact .afterB_n7 (f := fun b n => .movbN7B b n p) hw b n fun _ _ => rfl
  case movbRB n p => cases n <;> exact .afterB hw [] fun _ _ => rfl
  case sllbBWidth p k | srlbBWidth p k | srabBWidth p k | rolbBWidth p k | rorbBWidth p k =>
    fin_cases k <;> exact .afterB hw [] fun _ _ => rfl
  /- Suffixes that BC shares (R147). -/
  case lcAInd p | lcbAInd p | jInd p | calInd p => exact .afterAnyW [] (by rintro rfl _; rfl) fun _ _ => rfl
  case lcAT16 p w | lcbAT16 p w => exact .afterAnyW_word w (by rintro rfl _; rfl) fun _ _ => rfl
  case djnzB p d => exact .afterAnyB [d] (by rintro rfl _; rfl) fun _ _ => rfl
  case rbBit p bit | sbBit p bit | mbCBit p bit | mbBitC p bit | bandCBit p bit | bandnCBit p bit | borCBit p bit |
    bornCBit p bit | bxorCBit p bit => fin_cases bit <;> exact .afterAnyB [] (by rintro rfl _; rfl) fun _ _ => rfl
  case jbsBit p bit d | jbrBit p bit d | jbsrBit p bit d | jbrsBit p bit d =>
    fin_cases bit <;> exact .afterAnyB [d] (by rintro rfl _; rfl) fun _ _ => rfl
  /- Prefixes before a suffix no row lists (R165). -/
  case pfxWA s => exact .bareBC hw
  case pfxWPr n s => cases n <;> exact .bareW rfl (fun _ _ => rfl) hw
  case pfxWEr n s | pfxWX1 s | pfxWDpDec s | pfxWDp s | pfxWDpInc s | pfxWFix a s | pfxWOff a s | pfxWSfr a s |
    pfxWDir w s | pfxWD16X1 w s | pfxWD16X2 w s | pfxWX1A s | pfxWX1R0 s => exact .bareW rfl nofun hw
  case pfxWN7 b n s => cases b <;> exact .bareW rfl nofun hw
  case pfxBR n s | pfxBX1 s | pfxBDpDec s | pfxBDp s | pfxBDpInc s | pfxBFix a s | pfxBOff a s | pfxBSfr a s |
    pfxBDir w s | pfxBD16X1 w s | pfxBD16X2 w s | pfxBX1A s | pfxBX1R0 s | pfxBPswl s | pfxBPswh s => exact .bareB rfl hw
  case pfxBN7 b n s => cases b <;> exact .bareB rfl hw
  /- Codes DD_FETCH selects the instruction of (R135 a, b). -/
  case stAX1 | stbAX1 | stADpDec | stbADpDec | stADp | stbADp | stADpInc | stbADpInc | stAFix a | stbAFix a |
    stAOff a | stbAOff a | stASfr a | stbASfr a | fillA | fillbA | sllA | sllbA | srlA | srlbA | rolA | rolbA |
    rorA | rorbA | incA | incbA | decA | decbA | addAFix a | addbAFix a | addAOff a | addbAOff a | addbAImm v |
    adcbAImm v | subAFix a | subbAFix a | subAOff a | subbAOff a | subbAImm v | sbcbAImm v | cmpAFix a | cmpbAFix a |
    cmpAOff a | cmpbAOff a | cmpbAImm v | negA | negbA | sqrA | sqrbA | andAOff a | andbAOff a | andbAImm v |
    orAOff a | orbAOff a | orbAImm v | xorAOff a | xorbAOff a | xorbAImm v | tjzA d | tjnzA d | tjzbA d | tjnzbA d =>
    obtain rfl := hd _ rfl
    exact fun _ => rfl
  case stAEr n | stAPr n | stbAR n | addAEr n | addAPr n | addbAR n | subAEr n | subAPr n | subbAR n | cmpAEr n |
    cmpAPr n | cmpbAR n =>
    obtain rfl := hd _ rfl
    cases n <;> exact fun _ => rfl
  case sllAWidth k | sllbAWidth k | srlAWidth k | srlbAWidth k | sraAWidth k | srabAWidth k | rolAWidth k |
    rolbAWidth k | rorAWidth k | rorbAWidth k =>
    obtain rfl := hd _ rfl
    fin_cases k <;> exact fun _ => rfl
  case stADir w | stbADir w | stAD16X1 w | stbAD16X1 w | addAImm v | subAImm v | cmpAImm v | andAImm v | orAImm v |
    xorAImm v =>
    obtain rfl := hd _ rfl
    exact .word _ fun _ => rfl
  case stAD16X2 w | stbAD16X2 w | adcAImm v | sbcAImm v =>
    obtain rfl := hd _ rfl
    exact .word₂ _ fun _ => rfl
  case stAN7 b n | stbAN7 b n =>
    obtain rfl := hd _ rfl
    exact .n7 b n fun _ => rfl
  /- The other codes of R160. -/
  case lAImm v | lADir w | lbADir w | lAD16X1 w | lbAD16X1 w | jCadr w | calCadr w | scalCadr w =>
    exact .word _ fun _ => rfl
  case lcATadr w | lcbATadr w | cmpcATadr w | cmpcbATadr w => exact .word₂ w fun _ => rfl
  case movSfrImm a v | movOffImm a v | cmpFixImm a v | cmpOffImm a v => exact .byteWord a v fun _ => rfl
  case fcal seg w | fj seg w => exact .far seg w fun _ => rfl
  case lAN7 b n | lbAN7 b n => exact .n7 b n fun _ => rfl
  case djnzR4 d => exact fun t => decode_djnzR45 t false d
  case djnzR5 d => exact fun t => decode_djnzR45 t true d
  case movPrImm n v | movErImm n v => cases n <;> exact .word v fun _ => rfl
  case lAEr n | lAPr n | lbAR n | movbRImm n v | incPr n | decPr n | djnzPrL n d => cases n <;> exact fun _ => rfl
  case incbR n | decbR n => fin_cases n <;> exact fun _ => rfl
  case vcal v => fin_cases v <;> exact fun _ => rfl
  case mac a bit => fin_cases bit <;> exact .afterB rfl [] fun _ _ => rfl
  case sbSbafix bit k => exact fun t => (decode_sbafix bit _).trans (decodeSba_sb bit k t)
  case rbSbafix bit k => exact fun t => (decode_sbafix bit _).trans (decodeSba_rb bit k t)
  case jbsSbafix bit k d => exact fun t => (decode_sbafix bit _).trans (decodeSba_jbs bit k t d)
  case jbrSbafix bit k d => exact fun t => (decode_sbafix bit _).trans (decodeSba_jbr bit k t d)
  case sbSbaoff bit k => exact fun t => (decode_sbaoff bit _).trans (decodeSba_sb bit k t)
  case rbSbaoff bit k => exact fun t => (decode_sbaoff bit _).trans (decodeSba_rb bit k t)
  case jbsSbaoff bit k d => exact fun t => (decode_sbaoff bit _).trans (decodeSba_jbs bit k t d)
  case jbrSbaoff bit k d => exact fun t => (decode_sbaoff bit _).trans (decodeSba_jbr bit k t d)
  case pushs l => exact reads_pushs hw
  case pops l => exact reads_pops hw
  case acal h lo => exact reads_acal hw
  case unassigned lo => exact reads_unassigned hw
  case pushsA => exact absurd rfl hp
  all_goals exact fun _ => rfl

/-- PUSHS A, where FCAL or FRT does not begin (R163). -/
theorem decode_pushsA (dev : Device) (dd : Bool) {rest : List Byte} (h : followOk .pushsA rest = true) :
    decode dev dd (0x07 :: rest) = .ok (.pushsA, 1) := by
  cases rest with
  | nil => rfl
  | cons b t =>
    have h : (b != 0x08 && b != 0x09) = true := h
    obtain ⟨h8, h9⟩ : b ≠ 0x08 ∧ b ≠ 0x09 := by simpa using h
    exact (if_neg h8).trans (if_neg h9)

/-- Settles O1: PUSHS A by the byte behind it, every other instruction whatever stands behind it. -/
theorem decodeUndoesEncode : Obligations.DecodeUndoesEncode := by
  intro dev dd i rest hw hd hf
  by_cases hp : i = .pushsA
  · subst hp
    exact decode_pushsA dev dd hf
  · exact reads_encode hw hd hp rest

end Sys2Proof

/-! # How long an instruction is -/

namespace Sys2Proof

/- One thread, as in the tests: elaborating beside them would not fit the memory of the check. -/
set_option Elab.async false

/-- What R130 and R132 say of a decoding that has taken `pos` bytes and has `rest` before it: a length is 1 to 6 and lies
within the bytes, and six bytes are enough. -/
def Fits (pos : Nat) (rest : List Byte) (r : Decoded) : Prop :=
  (∀ i n, r = .ok (i, n) → 1 ≤ n ∧ n ≤ 6 ∧ n ≤ pos + rest.length) ∧ (6 ≤ pos + rest.length → r ≠ .error .truncated)

/-! ## Operand bytes -/

section
variable {pos n : Nat} {rest t : List Byte} {i : Instr} {s : Byte} {r : Decoded}

/-- One more byte taken. -/
theorem Fits.cons (h : Fits (pos + 1) t r) : Fits pos (s :: t) r := by
  simpa only [Fits, List.length_cons, Nat.add_comm t.length, ← Nat.add_assoc] using h

theorem fits_ok (h1 : 1 ≤ n) (h6 : n ≤ 6) (hr : n ≤ pos + rest.length) : Fits pos rest (.ok (i, n)) :=
  ⟨fun _ _ h => by cases h; exact ⟨h1, h6, hr⟩, fun _ h => (by cases h)⟩

/-- Bytes that end early are fewer than six. -/
theorem fits_truncated (h : pos + rest.length < 6) : Fits pos rest (.error .truncated) :=
  ⟨fun _ _ h => (by cases h), fun h6 => absurd h6 (Nat.not_le.mpr h)⟩

/-- A device without REGMASK, or a mask it does not map, is no matter of length. -/
theorem fits_error {e : DecodeError} (h : e ≠ .truncated) : Fits pos rest (.error e) :=
  ⟨fun _ _ h' => (by cases h'), fun _ h' => by cases h'; exact h rfl⟩

@[simp] theorem fits_arg0 (h1 : 1 ≤ pos) (h6 : pos ≤ 6) : Fits pos rest (arg0 pos i) :=
  fits_ok h1 h6 (Nat.le_add_right _ _)

@[simp] theorem fits_arg1 {f : Byte → Instr} (h6 : pos + 1 ≤ 6) : Fits pos rest (arg1 pos f rest) := by
  unfold arg1
  split
  · exact fits_ok (by omega) h6 (by simp)
  · exact fits_truncated (by simp; omega)

@[simp] theorem fits_arg2 {f : Word → Instr} (h6 : pos + 2 ≤ 6) : Fits pos rest (arg2 pos f rest) := by
  match rest with
  | [] | [_] => exact fits_truncated (by simp; omega)
  | _ :: _ :: _ => exact fits_ok (by omega) h6 (by simp)

@[simp] theorem fits_arg11 {f : Byte → Byte → Instr} (h6 : pos + 2 ≤ 6) : Fits pos rest (arg11 pos f rest) := by
  match rest with
  | [] | [_] => exact fits_truncated (by simp; omega)
  | _ :: _ :: _ => exact fits_ok (by omega) h6 (by simp)

@[simp] theorem fits_arg12 {f : Byte → Word → Instr} (h6 : pos + 3 ≤ 6) : Fits pos rest (arg12 pos f rest) := by
  match rest with
  | [] | [_] | [_, _] => exact fits_truncated (by simp; omega)
  | _ :: _ :: _ :: _ => exact fits_ok (by omega) h6 (by simp)

@[simp] theorem fits_argFar {f : Byte → Word → Instr} (h6 : pos + 3 ≤ 6) : Fits pos rest (argFar pos f rest) := by
  match rest with
  | [] | [_] | [_, _] => exact fits_truncated (by simp; omega)
  | _ :: _ :: _ :: _ => exact fits_ok (by omega) h6 (by simp)

@[simp] theorem fits_argN7Native {f : N7Base → BitVec 7 → Instr} (h6 : pos + 1 ≤ 6) : Fits pos rest (argN7Native pos f rest) := by
  cases rest with
  | nil => exact fits_truncated (by simp; omega)
  | cons b t => exact fits_ok (by omega) h6 (by simp)

@[simp] theorem fits_argN7Suffix {f : N7Base → BitVec 7 → Instr} (h6 : pos + 1 ≤ 6) : Fits pos rest (argN7Suffix pos f rest) := by
  cases rest with
  | nil => exact fits_truncated (by simp; omega)
  | cons b t => exact fits_ok (by omega) h6 (by simp)

@[simp] theorem fits_argImm {dd : Bool} {fw : Word → Instr} {fb : Byte → Instr} (h6 : pos + 2 ≤ 6) :
    Fits pos rest (argImm dd pos fw fb rest) := by
  cases dd with
  | false => exact fits_arg1 (by omega)
  | true => exact fits_arg2 h6

@[simp] theorem fits_argDD1 {dd : Bool} {fw fb : Byte → Instr} (h6 : pos + 1 ≤ 6) : Fits pos rest (argDD1 dd pos fw fb rest) :=
  fits_arg1 h6

@[simp] theorem fits_argDD2 {dd : Bool} {fw fb : Word → Instr} (h6 : pos + 2 ≤ 6) : Fits pos rest (argDD2 dd pos fw fb rest) :=
  fits_arg2 h6

@[simp] theorem fits_argReg {dd : Bool} {k : Nat} {fe : ER → Instr} {fp : PR → Instr} {fr : R8 → Instr} :
    Fits 1 rest (argReg dd k fe fp fr) := fits_arg0 (by omega) (by omega)

/-! ## Suffixes -/

@[simp] theorem fits_aluSuffixW {lo : Nat} {p : WOp} {fix off sfr : WOp → Byte → Instr} {imm : WOp → Word → Instr}
    {wa aw : WOp → Instr} (h1 : 1 ≤ pos) (h6 : pos + 2 ≤ 6) :
    Fits pos rest (aluSuffixW pos lo p fix off sfr imm wa aw rest) := by
  unfold aluSuffixW
  split
  case h_4 => exact fits_arg2 h6
  case h_5 | h_6 => exact fits_arg0 h1 (by omega)
  all_goals exact fits_arg1 (by omega)

@[simp] theorem fits_aluSuffixB {lo : Nat} {p : BOp} {fix off sfr imm : BOp → Byte → Instr} {ba ab : BOp → Instr}
    (h1 : 1 ≤ pos) (h6 : pos + 1 ≤ 6) : Fits pos rest (aluSuffixB pos lo p fix off sfr imm ba ab rest) := by
  unfold aluSuffixB
  split
  case h_5 | h_6 => exact fits_arg0 h1 (by omega)
  all_goals exact fits_arg1 h6

/-- A word suffix takes at most two bytes more, but for FJ, which stands behind the single byte 60. -/
theorem fits_suffixW {p : WOp} (h1 : 1 ≤ pos) (h6 : pos + 2 ≤ 6) (hx1 : p = .pr .x1 → pos + 3 ≤ 6) :
    Fits pos rest (suffixW pos p s rest) := by
  have far (hp : p = .pr .x1) : Fits pos rest (argFar pos .fj rest) := fits_argFar (hx1 hp)
  unfold suffixW
  dsimp only
  repeat' split
  all_goals first
    | exact far ‹_›
    | simp (disch := omega)

theorem fits_suffixB {p : BOp} (h1 : 1 ≤ pos) (h6 : pos + 2 ≤ 6) : Fits pos rest (suffixB pos p s rest) := by
  unfold suffixB
  dsimp only
  repeat' split
  all_goals simp (disch := omega)

theorem fits_suffixBC {dd : Bool} : Fits 2 rest (suffixBC dd s rest) := by
  unfold suffixBC
  dsimp only
  repeat' split
  all_goals simp (disch := omega)

/-! ## Prefixes -/

@[simp] theorem fits_thenW {p : WOp} (h6 : pos + 3 ≤ 6) (hx1 : p = .pr .x1 → pos + 4 ≤ 6) :
    Fits pos rest (thenW pos p rest) := by
  cases rest with
  | nil => exact fits_truncated (by simp; omega)
  | cons s t => exact (fits_suffixW (by omega) h6 hx1).cons

@[simp] theorem fits_thenB {p : BOp} (h6 : pos + 3 ≤ 6) : Fits pos rest (thenB pos p rest) := by
  cases rest with
  | nil => exact fits_truncated (by simp; omega)
  | cons s t => exact (fits_suffixB (by omega) h6).cons

/-- The code of a memory operand is one byte with up to two bytes of its own. -/
theorem fits_memPrefix {lo : Nat} {k : Nat → Mode → List Byte → Decoded}
    (hk : ∀ n m t, n ≤ 3 → Fits n t (k n m t)) : Fits 1 rest (memPrefix lo rest k) := by
  unfold memPrefix
  split
  case h_5 | h_6 | h_7 =>
    cases rest with
    | nil => exact fits_truncated (by simp)
    | cons a t => exact (hk 2 _ t (by omega)).cons
  case h_8 | h_9 | h_10 =>
    match rest with
    | [] | [_] => exact fits_truncated (by simp)
    | _ :: _ :: t => exact (hk 3 _ t (by omega)).cons.cons
  all_goals exact hk 1 _ rest (by omega)

theorem fits_n7Prefix {k : Nat → Mode → List Byte → Decoded} (hk : ∀ m t, Fits 2 t (k 2 m t)) :
    Fits 1 rest (n7Prefix rest k) := by
  cases rest with
  | nil => exact fits_truncated (by simp)
  | cons b t => exact (hk _ t).cons

theorem fits_memW {n : Nat} (m : Mode) (hn : n ≤ 3) : Fits n t (thenW n (.mem m) t) :=
  fits_thenW (by omega) (fun h => by cases h)

/-! ## First bytes -/

theorem fits_decodeMask {dev : Device} : Fits 1 rest (decodeMask dev rest) := by
  unfold decodeMask
  split
  · exact fits_error (by simp)
  · cases rest with
    | nil => exact fits_truncated (by simp)
    | cons m t =>
      dsimp only
      split
      · exact fits_ok (by omega) (by omega) (by simp; omega)
      · exact fits_ok (by omega) (by omega) (by simp; omega)
      · exact fits_error (by simp)

theorem fits_decode07 : Fits 1 rest (decode07 rest) := by
  cases rest with
  | nil => exact fits_arg0 (by omega) (by omega)
  | cons b t =>
    unfold decode07
    dsimp only
    split
    · exact (fits_argFar (by omega)).cons
    split
    · exact (fits_arg0 (by omega) (by omega)).cons (r := arg0 2 .frt)
    · exact fits_arg0 (by omega) (by omega)

@[simp] theorem fits_decodeSba {bit : Fin 8} {fsb frb : Fin 8 → BitVec 6 → Instr}
    {fjbs fjbr : Fin 8 → BitVec 6 → Byte → Instr} : Fits 1 rest (decodeSba bit fsb frb fjbs fjbr rest) := by
  cases rest with
  | nil => exact fits_truncated (by simp)
  | cons b t =>
    apply Fits.cons
    unfold decodeSba
    dsimp only
    split
    all_goals simp (disch := omega)

end

section
variable {dev : Device} {dd : Bool} {lo : Nat} {rest : List Byte}

theorem fits_decode0 : Fits 1 rest (decode0 dev dd lo rest) := by
  unfold decode0
  split
  case h_7 => exact fits_decodeMask
  case h_8 => exact fits_decode07
  all_goals simp (disch := omega)

theorem fits_decode1 : Fits 1 rest (decode1 dd lo rest) := by
  unfold decode1
  split
  all_goals simp (disch := omega)

theorem fits_decode2 : Fits 1 rest (decode2 dd lo rest) := by
  unfold decode2
  repeat' split
  all_goals simp (disch := omega)

theorem fits_decode3 : Fits 1 rest (decode3 dd lo rest) := by
  unfold decode3
  split
  all_goals simp (disch := omega)

theorem fits_decode4 : Fits 1 rest (decode4 lo rest) := by
  unfold decode4
  repeat' split
  all_goals simp (disch := omega)

theorem fits_decode5 : Fits 1 rest (decode5 dev lo rest) := by
  unfold decode5
  repeat' split
  all_goals simp (disch := omega)

theorem fits_decode6 : Fits 1 rest (decode6 lo rest) := by
  unfold decode6
  repeat' split
  all_goals simp (disch := omega)

theorem fits_decode7 : Fits 1 rest (decode7 lo) := by
  unfold decode7
  repeat' split
  all_goals simp (disch := omega)

theorem fits_decode8 : Fits 1 rest (decode8 dd lo rest) := by
  unfold decode8
  split
  case h_12 => exact fits_n7Prefix fun m _ => fits_memW m (by omega)
  all_goals simp (disch := omega)

theorem fits_decode9 : Fits 1 rest (decode9 dd lo rest) := by
  unfold decode9
  split
  case h_12 => exact fits_n7Prefix fun _ _ => fits_thenB (by omega)
  all_goals simp (disch := omega)

theorem fits_decodeA : Fits 1 rest (decodeA dd lo rest) := by
  unfold decodeA
  split
  case h_5 => exact fits_memPrefix fun _ m _ => fits_memW m
  all_goals simp (disch := omega)

theorem fits_decodeB : Fits 1 rest (decodeB dd lo rest) := by
  unfold decodeB
  split
  case h_1 =>
    cases rest with
    | nil => exact fits_truncated (by simp)
    | cons s t => exact fits_suffixBC.cons
  case h_5 => exact fits_memPrefix fun _ _ _ hn => fits_thenB (by omega)
  all_goals simp (disch := omega)

theorem fits_decodeC : Fits 1 rest (decodeC dd lo rest) := by
  unfold decodeC
  split
  all_goals simp (disch := omega)

theorem fits_decodeD : Fits 1 rest (decodeD dd lo rest) := by
  unfold decodeD
  split
  all_goals simp (disch := omega)

theorem fits_decodeF : Fits 1 rest (decodeF lo rest) := by
  unfold decodeF
  split
  all_goals simp (disch := omega)

end

/-- The bytes of an instruction, by the high nibble of the first (R160). -/
theorem fits_decode (dev : Device) (dd : Bool) (bytes : List Byte) : Fits 0 bytes (decode dev dd bytes) := by
  cases bytes with
  | nil => exact fits_truncated (by simp)
  | cons b rest =>
    apply Fits.cons
    unfold decode
    dsimp only
    split
    · exact fits_decode0
    · exact fits_decode1
    · exact fits_decode2
    · exact fits_decode3
    · exact fits_decode4
    · exact fits_decode5
    · exact fits_decode6
    · exact fits_decode7
    · exact fits_decode8
    · exact fits_decode9
    · exact fits_decodeA
    · exact fits_decodeB
    · exact fits_decodeC
    · exact fits_decodeD
    · exact fits_arg0 (by omega) (by omega)
    · exact fits_decodeF

/-- Settles O2, map by map. -/
theorem instructionIsOneToSixBytes : Obligations.InstructionIsOneToSixBytes := by
  intro dev dd bytes
  simpa only [Fits, Nat.zero_add] using fits_decode dev dd bytes

end Sys2Proof

/-! # Written-out words, and encodings that stop the machine -/

namespace Sys2Proof.Machine

/- One thread, as in the tests: elaborating beside them would not fit the memory of the check. -/
set_option Elab.async false

/-- Settles O3, each word by running the decoder on it. -/
theorem familyWordsDecode : Obligations.FamilyWordsDecode :=
  ⟨rfl, rfl, rfl, rfl, rfl, rfl, rfl, rfl, rfl, rfl, rfl⟩

/-! ## The operand width and DD_FETCH (R135) -/

section
variable {s : State} (k : Host.Outcome State Fault Refusal)

theorem classW_mismatch (h : s.ddFetch = false) : classW s k = .fault .ddMismatch := by
  rw [classW, h]; rfl

theorem classB_mismatch (h : s.ddFetch = true) : classB s k = .fault .ddMismatch := by
  rw [classB, h]; rfl

end

/-- Settles O27: the shapes of class (c) check DD_FETCH before anything else. -/
theorem widthMismatchFaults : Obligations.WidthMismatchFaults := by
  refine fun i s => ⟨fun dd hs => ?_, fun dd hs => ?_⟩
  · obtain ⟨op, p, hs⟩ | ⟨p, hs⟩ := hs <;> exact (exec_shape s hs).trans (classW_mismatch _ dd)
  · obtain ⟨op, p, hs⟩ | ⟨p, hs⟩ := hs <;> exact (exec_shape s hs).trans (classB_mismatch _ dd)

/-! ## Unlisted encodings (R165) -/

theorem exec_unlistedW (p : WOp) (x : Byte) (s : State) : exec (unlistedW p x) s = .fault .unlistedEncoding := by
  cases p with
  | mem m => cases m <;> rfl
  | _ => rfl

theorem exec_unlistedB (p : BOp) (x : Byte) (s : State) : exec (unlistedB p x) s = .fault .unlistedEncoding := by
  cases p with
  | mem m => cases m <;> rfl
  | _ => rfl

/-- Settles O58, one operand form at a time. -/
theorem unlistedEncodingsFault : Obligations.UnlistedEncodingsFault :=
  fun s x => ⟨fun p => exec_unlistedW p x s, fun p => exec_unlistedB p x s, fun _ => rfl⟩

/-! # Where operands stand, what a location is, and what a shape stores -/

section
variable {s t u w : State} {l : Loc}

/-! ## Addressing modes (R140 to R143, R152) -/

section
variable {st x : Word}

theorem modeLoc_x1 (h : prRead s .x1 = .ok x) : modeLoc st .x1 s = .ok (.data x, s) := by
  rw [modeLoc, h]; rfl
theorem modeLoc_d16x1 (h : prRead s .x1 = .ok x) (d : Word) : modeLoc st (.d16x1 d) s = .ok (.data (x + d), s) := by
  rw [modeLoc, h]; rfl
theorem modeLoc_d16x2 (h : prRead s .x2 = .ok x) (d : Word) : modeLoc st (.d16x2 d) s = .ok (.data (x + d), s) := by
  rw [modeLoc, h]; rfl
theorem modeLoc_x1A (h : prRead s .x1 = .ok x) : modeLoc st .x1A s = .ok (.data (x + zext (loByte s.a)), s) := by
  rw [modeLoc, h]; rfl
theorem modeLoc_x1R0 (h : prRead s .x1 = .ok x) {r : Byte} (hr : rRead s .r0 = .ok r) :
    modeLoc st .x1R0 s = .ok (.data (x + zext r), s) := by
  rw [modeLoc, h, res_ok_bind, hr]; rfl
theorem modeLoc_dp (h : prRead s .dp = .ok x) : modeLoc st .dp s = .ok (.data x, s) := by
  rw [modeLoc, h]; rfl
theorem modeLoc_n7dp (h : prRead s .dp = .ok x) (n : BitVec 7) :
    modeLoc st (.n7dp n) s = .ok (.data (x + sext7 n), s) := by
  rw [modeLoc, h]; rfl
theorem modeLoc_n7usp (h : prRead s .usp = .ok x) (n : BitVec 7) :
    modeLoc st (.n7usp n) s = .ok (.data (x + sext7 n), s) := by
  rw [modeLoc, h]; rfl
theorem modeLoc_dpInc (h : prRead s .dp = .ok x) (hw : prWrite s .dp (x + st) = .ok t) :
    modeLoc st .dpInc s = .ok (.data x, t) := by
  rw [modeLoc, h, res_ok_bind, hw]; rfl
theorem modeLoc_dpDec (h : prRead s .dp = .ok x) (hw : prWrite s .dp (x - st) = .ok t) :
    modeLoc st .dpDec s = .ok (.data x, t) := by
  rw [modeLoc, h, res_ok_bind, hw]; rfl

end

theorem toNat_mkWord (h l : Byte) : (mkWord h l).toNat = h.toNat * 0x100 + l.toNat := by
  rw [mkWord, BitVec.toNat_append, ← Nat.shiftLeft_add_eq_or_of_lt l.isLt, Nat.shiftLeft_eq]

/-- An SBA byte above LRBH*100H + 0C0H does not leave its segment (R152). -/
theorem toNat_sbaoff (h : Byte) (k : BitVec 6) :
    (mkWord h 0 + 0xC0 + k.setWidth 16).toNat = h.toNat * 0x100 + 0xC0 + k.toNat := by
  have high := h.isLt
  have low := k.isLt
  simp only [BitVec.toNat_add, toNat_mkWord, BitVec.toNat_setWidth, BitVec.ofNat_eq_ofNat, BitVec.toNat_ofNat]
  omega

/-- Locating an operand leaves every byte but those of DP, and the whole state where DP does not move. -/
theorem located_frame {moves : Bool} (h : t = s ∨ (moves = true ∧ Wrote s.dpBytes s t ∧ t = s.setData t.data)) :
    t = s.setData t.data ∧ SameCells s.dpBytes s t ∧ (moves = false → t = s) := by
  obtain rfl | ⟨rfl, wrote, data⟩ := h
  · exact ⟨rfl, fun _ _ => rfl, fun _ => rfl⟩
  · exact ⟨data, wrote.cells, fun h => (by cases h)⟩

/-- Settles O19, mode by mode. -/
theorem addressingModes : Obligations.AddressingModes := by
  intro s st
  have byteReg (r : R8) (n : Nat) (hn : r.num = n) :
      ∃ o, locB (.r r) s = .ok (.phys o, s) ∧ o.toNat = 0x200 + 8 * (loByte s.lrb).toNat + n :=
    ⟨_, rfl, hn ▸ rAddr_toNat s _ (r8_num_lt r)⟩
  have wordReg (r : ER) (n : Nat) (hn : 2 * r.num = n) :
      ∃ o, locW (.er r) s = .ok (.phys o, s) ∧ o.toNat = 0x200 + 8 * (loByte s.lrb).toNat + n :=
    ⟨_, rfl, hn ▸ rAddr_toNat s _ (by have := er_num_lt r; omega)⟩
  have pointing (r : PR) (n : Nat) (hn : 2 * r.num = n) :
      ∃ o, locW (.pr r) s = .ok (.phys o, s) ∧ o.toNat = 0x200 + 8 * (Psw.scb s.psw).toNat + n ∧
        prRead s r = memReadWord s 0 o :=
    ⟨_, rfl, hn ▸ prAddr_toNat s r, rfl⟩
  refine ⟨⟨rfl, rfl, rfl, rfl⟩,
    ⟨byteReg .r0 0 rfl, byteReg .r1 1 rfl, byteReg .r2 2 rfl, byteReg .r3 3 rfl, byteReg .r4 4 rfl, byteReg .r5 5 rfl,
      byteReg .r6 6 rfl, byteReg .r7 7 rfl⟩,
    ⟨wordReg .er0 0 rfl, wordReg .er1 2 rfl, wordReg .er2 4 rfl, wordReg .er3 6 rfl⟩,
    ⟨pointing .x1 0 rfl, pointing .x2 2 rfl, pointing .dp 4 rfl, pointing .usp 6 rfl⟩,
    fun x h => ⟨modeLoc_x1 h, modeLoc_d16x1 h, modeLoc_x1A h, fun _ => modeLoc_x1R0 h⟩,
    fun x h => modeLoc_d16x2 h,
    fun x h => ⟨modeLoc_dp h, modeLoc_n7dp h, fun _ => modeLoc_dpInc h, fun _ => modeLoc_dpDec h⟩,
    fun x h => modeLoc_n7usp h,
    fun _ => rfl, fun _ => rfl, fun _ => rfl, fun _ => rfl, fun _ => ⟨rfl, rfl⟩,
    fun k => ⟨rfl, _, rfl, toNat_sbaoff (hiByte s.lrb) k⟩,
    fun _ _ _ h => located_frame (locW_ok h), fun _ _ _ h => located_frame (locB_ok h)⟩

/-! ## Locations (R136) -/

theorem sfrOddWord_true {off : Word} (h : sfrOddWord s off = true) :
    isSfr (s.physSeg off) off = true ∧ off.toNat % 2 = 1 ∧ off.toNat ∈ s.dev.sfrOddWords := by
  simp only [sfrOddWord, Bool.and_eq_true, List.contains_iff_mem] at h
  obtain ⟨⟨⟨sfr, odd⟩, listed⟩, -⟩ := h
  refine ⟨sfr, ?_, listed⟩
  rw [BitVec.getLsbD, Nat.testBit_zero] at odd
  exact of_decide_eq_true odd

theorem data_evenWord {off : Word} (x : Word) (h : sfrOddWord s off = false) :
    rdW (.data off) s = dReadWord s off ∧ wrW (.data off) x s = dWriteWord s off x := by
  rw [rdW, wrW, h]; exact ⟨rfl, rfl⟩

theorem data_oddWord {off : Word} (x : Word) (h : sfrOddWord s off = true) :
    rdW (.data off) s = .error (.fault .sfrWordException) ∧ wrW (.data off) x s = .error (.fault .sfrWordException) := by
  rw [rdW, wrW, h]; exact ⟨rfl, rfl⟩

/-- A store outside the SFR area keeps every register but A and PSW. -/
theorem StoredOutsideSfr.kept (h : StoredOutsideSfr l s t) : Kept s t ∧ t.pc = s.pc := by
  rw [h.rest]
  exact ⟨⟨⟨rfl, rfl, rfl, rfl, rfl, rfl, rfl, rfl, rfl, rfl⟩, rfl, rfl⟩, rfl⟩

theorem memWriteByte_readBack {seg : Byte} {off : Word} {v : Byte} (hs : isSfr seg off = false)
    (h : memWriteByte s seg off v = .ok t) : memReadByte t seg off = .ok v := by
  rw [memWriteByte_plain v hs] at h
  split at h
  · next present => cases h; exact memReadByte_plain (s := s.putCell (key seg off) v) hs present (cell_putCell_self _ _ _)
  · simp at h

theorem memWriteWord_readBack {seg : Byte} {off v : Word} (hs : isSfr seg off = false)
    (h : memWriteWord s seg off v = .ok t) : memReadWord t seg off = .ok v := by
  obtain ⟨low, high, -⟩ := memWriteWord_plain hs h
  obtain ⟨r, written, read, -⟩ := memWriteWord_reads_back v hs low high
  obtain rfl : r = t := Except.ok.inj (written.symm.trans h)
  exact read

/-- A data address stays where it was, and outside the ROM window, in a state with other data memory. -/
theorem dWriteByte_readBack {off : Word} {v : Byte} (hs : isSfr (s.physSeg off) off = false)
    (h : dWriteByte s off v = .ok t) : dReadByte t off = .ok v := by
  have data := dWriteByte_setData hs h
  have seg : t.physSeg off = s.physSeg off := by rw [data]; rfl
  have window : t.throughWindow (t.physSeg off) off = s.throughWindow (s.physSeg off) off := by rw [data]; rfl
  unfold dWriteByte at h
  split at h
  · simp at h
  · next outside =>
    rw [dReadByte, window, if_neg outside, seg]
    exact memWriteByte_readBack hs h

theorem dWriteWord_readBack {off v : Word} (hs : isSfr (s.physSeg off) off = false)
    (h : dWriteWord s off v = .ok t) : dReadWord t off = .ok v := by
  have data := dWriteWord_setData hs h
  have seg : t.physSeg off = s.physSeg off := by rw [data]; rfl
  have window : t.throughWindow (t.physSeg off) off = s.throughWindow (s.physSeg off) off := by rw [data]; rfl
  unfold dWriteWord at h
  split at h
  · simp at h
  · next outside =>
    rw [dReadWord, window, if_neg outside, seg]
    exact memWriteWord_readBack hs h

/-- A word stored outside the SFR area reads back; PSWL and PSWH have no word store of their own. -/
theorem wrW_readBack {v : Word} (hs : l.inSfr s = false) (h : wrW l v s = .ok t) : rdW l t = .ok v := by
  cases l with
  | acc => cases h; rfl
  | psw high => cases h; rfl
  | phys p => exact memWriteWord_readBack hs h
  | data off =>
    obtain ⟨even, h⟩ := wrW_data_ok.mp h
    have data := dWriteWord_setData hs h
    have seg : t.physSeg off = s.physSeg off := by rw [data]; rfl
    exact rdW_data_ok.mpr ⟨sfrOddWord_plain (seg ▸ hs), dWriteWord_readBack hs h⟩

theorem wrB_readBack {v : Byte} (hs : l.inSfr s = false) (h : wrB l v s = .ok t) : rdB l t = .ok v := by
  cases l with
  | acc => cases h; exact congrArg Except.ok (loByte_mkWord _ _)
  | psw high =>
    cases h
    cases high with
    | true => exact congrArg Except.ok (hiByte_mkWord _ _)
    | false => exact congrArg Except.ok (loByte_mkWord _ _)
  | phys p => exact memWriteByte_readBack hs h
  | data off => exact dWriteByte_readBack hs h

theorem wrW_a {v : Word} (hs : l.inSfr s = false) (h : wrW l v s = .ok t) : t.a = if l = .acc then v else s.a := by
  split
  · next hl => subst hl; cases h; rfl
  · next hl => exact (wrW_outsideSfr hs h).a hl

theorem wrB_a {v : Byte} (hs : l.inSfr s = false) (h : wrB l v s = .ok t) :
    t.a = if l = .acc then mkWord (hiByte s.a) v else s.a := by
  split
  · next hl => subst hl; cases h; rfl
  · next hl => exact (wrB_outsideSfr hs h).a hl

theorem wrB_psw {v : Byte} (hs : l.inSfr s = false) (h : wrB l v s = .ok t) :
    t.psw = if l = .psw true then mkWord v (loByte s.psw)
      else if l = .psw false then mkWord (hiByte s.psw) v else s.psw := by
  split
  · next hl => subst hl; cases h; rfl
  split
  · next hl => subst hl; cases h; rfl
  · next high low => exact (wrB_outsideSfr hs h).psw fun b => by cases b <;> assumption

/-- Settles O18: what each location is by its definition, what a store leaves by the kind of store. -/
theorem storeToLocation : Obligations.StoreToLocation := by
  intro s l
  refine ⟨fun x v => ⟨⟨rfl, rfl, rfl, rfl⟩, ⟨rfl, rfl, rfl, rfl⟩, fun p => ⟨rfl, rfl, rfl, rfl⟩,
      fun off => ⟨rfl, rfl, data_evenWord x, fun h => ?_⟩⟩,
    fun v t h => ⟨(wrW_wrote h).cells, fun hs => ?_⟩, fun v t h => ⟨(wrB_wrote h).cells, fun hs => ?_⟩⟩
  · obtain ⟨sfr, odd, listed⟩ := sfrOddWord_true h
    exact ⟨sfr, odd, listed, data_oddWord x h⟩
  · have stored := wrW_outsideSfr hs h
    exact ⟨stored.kept.1, stored.kept.2, wrW_a hs h, fun hl => ⟨stored.psw hl, wrW_readBack hs h⟩⟩
  · have stored := wrB_outsideSfr hs h
    exact ⟨stored.kept.1, stored.kept.2, wrB_readBack hs h, wrB_a hs h, wrB_psw hs h⟩

/-! ## The bytes a shape stores to -/

/-- A data address does not depend on the flags, only on BCB. -/
theorem physSeg_setPsw {q : Word} (h : Psw.bcb q = Psw.bcb t.psw) (off : Word) :
    (t.setPsw q).physSeg off = t.physSeg off := by
  rw [State.physSeg, State.setPsw_psw, h]; rfl

theorem Loc.bytesW_setPsw (l : Loc) {q : Word} (h : Psw.bcb q = Psw.bcb t.psw) : l.bytesW (t.setPsw q) = l.bytesW t := by
  cases l with
  | data off => simp only [Loc.bytesW, physSeg_setPsw h]
  | _ => rfl

theorem Loc.bytesB_setPsw (l : Loc) {q : Word} (h : Psw.bcb q = Psw.bcb t.psw) : l.bytesB (t.setPsw q) = l.bytesB t := by
  cases l with
  | data off => simp only [Loc.bytesB, physSeg_setPsw h]
  | _ => rfl

/-- The store of a shape changes the bytes the shape stores to, whatever flags were written before it (D11). -/
theorem StoredBy.cells {sh : Shape} {q : Word} (h : StoredBy sh s t q w) (hf : SameBits sh.flags t.psw q) :
    SameCells (sh.stores s) t w := by
  have bcb : Psw.bcb q = Psw.bcb t.psw := hf.bcb
    (fun h => absurd (Shape.nine_le_of_mem_flags h) (by decide)) (fun h => absurd (Shape.nine_le_of_mem_flags h) (by decide))
  cases h with
  | unstored => exact fun _ _ => rfl
  | @word l v _ hd hw =>
    have bytes : sh.stores s = l.bytesW (t.setPsw q) := by rw [Loc.bytesW_setPsw l bcb]; simp only [Shape.stores, hd]
    exact bytes ▸ (wrW_wrote hw).cells
  | @byte l v _ hd hw =>
    have bytes : sh.stores s = l.bytesB (t.setPsw q) := by rw [Loc.bytesB_setPsw l bcb]; simp only [Shape.stores, hd]
    exact bytes ▸ (wrB_wrote hw).cells

/-- The bytes of data memory after an instruction with a shape: DP moves, then the result is stored, and nothing else. -/
theorem Shape.Effect.cell {sh : Shape} {q : Word} (e : sh.Effect s u t w q) {a : Nat} (ha : a ∉ sh.stores s)
    (hdp : sh.movesDp = true → a ∉ s.dpBytes) : u.cell a = s.cell a := by
  have located : t.cell a = s.cell a := e.located.wrote.cells a (by
    split
    · next moves => exact hdp moves
    · exact List.not_mem_nil)
  calc u.cell a = w.cell a := by rw [e.rest]; rfl
    _ = t.cell a := e.stored.cells e.flags a ha
    _ = s.cell a := located

end

/-- Settles O59, from the phases of a shape. -/
theorem frameOfMemory : Obligations.FrameOfMemory := by
  intro i sh s u hi h a ha hdp
  obtain ⟨t, w, q, e⟩ := Shape.run_acts ((exec_shape s hi).symm.trans h)
  exact e.cell ha hdp

end Sys2Proof.Machine

/-! # Data movement: loads, stores and moves, exchanges -/

namespace Sys2Proof.Machine

/- One thread, as in the tests: elaborating beside them would not fit the memory of the check. -/
set_option Elab.async false

section
variable {s t t' u : State} {l m : Loc}

/-! ## Loads (R201 to R207, R228, R230)

SetDD writes PSW.DD and reaches DD_FETCH at once, because a load ends with `retireSync` (R550). -/

theorem retireSync_loadWord (t : State) (v : Word) :
    retireSync (.ok (t.loadWord v))
      = .next (((t.setA v).setPsw (Psw.setDd (Psw.setZ t.psw (v == 0)) true)).setDdFetch true) := by
  simp only [retireSync_ok, State.loadWord, State.setPsw_psw, Psw.dd_setDd]

theorem retireSync_loadByte (t : State) (v : Byte) :
    retireSync (.ok (t.loadByte v))
      = .next (((t.setA (mkWord (hiByte t.a) v)).setPsw (Psw.setDd (Psw.setZ t.psw (v == 0)) false)).setDdFetch
        false) := by
  simp only [retireSync_ok, State.loadByte, setLo, State.setPsw_psw, Psw.dd_setDd]

theorem loadW_located {p : WOp} {v : Word} (hl : locW p s = .ok (l, t)) (hv : rdW l t = .ok v) :
    loadW p s = retireSync (.ok (t.loadWord v)) := by
  simp only [loadW, hl, res_ok_bind, hv, res_pure]

theorem loadB_located {p : BOp} {v : Byte} (hl : locB p s = .ok (l, t)) (hv : rdB l t = .ok v) :
    loadB p s = retireSync (.ok (t.loadByte v)) := by
  simp only [loadB, hl, res_ok_bind, hv, res_pure]

/-- Settles O24, by the shape of the load: an operand is located and read, an immediate is at hand. -/
theorem loadResult : Obligations.LoadResult := by
  refine fun i s => ⟨fun p t l v hi hl hv => ?word, fun p t l v hi hl hv => ?byte,
    fun v hi => ?immWord, fun v hi => ?immByte⟩
  case word => exact (exec_shape s hi).trans ((loadW_located hl hv).trans (retireSync_loadWord t v))
  case byte => exact (exec_shape s hi).trans ((loadB_located hl hv).trans (retireSync_loadByte t v))
  case immWord => exact (exec_shape s hi).trans (retireSync_loadWord s v)
  case immByte => exact (exec_shape s hi).trans (retireSync_loadByte s v)

/-! ## Stores and moves (R208 to R235)

The source is located, then the destination from the state the first location left, and both are used in the last state
(R143, D6). -/

theorem moveW_located {d p : WOp} {v : Word} (hl : locW p s = .ok (l, t)) (hm : locW d t = .ok (m, t'))
    (hv : rdW l t' = .ok v) (hw : wrW m v t' = .ok u) : moveW d p s = .next (u.setDdFetch (Psw.dd s.psw)) := by
  simp only [moveW, hl, res_ok_bind, hm, hv, hw, retire_ok]

theorem moveB_located {d p : BOp} {v : Byte} (hl : locB p s = .ok (l, t)) (hm : locB d t = .ok (m, t'))
    (hv : rdB l t' = .ok v) (hw : wrB m v t' = .ok u) : moveB d p s = .next (u.setDdFetch (Psw.dd s.psw)) := by
  simp only [moveB, hl, res_ok_bind, hm, hv, hw, retire_ok]

theorem moveImmW_located {p : WOp} {v : Word} (hl : locW p s = .ok (l, t)) (hw : wrW l v t = .ok u) :
    moveImmW p v s = .next (u.setDdFetch (Psw.dd s.psw)) := by
  simp only [moveImmW, hl, res_ok_bind, hw, retire_ok]

theorem moveImmB_located {p : BOp} {v : Byte} (hl : locB p s = .ok (l, t)) (hw : wrB l v t = .ok u) :
    moveImmB p v s = .next (u.setDdFetch (Psw.dd s.psw)) := by
  simp only [moveImmB, hl, res_ok_bind, hw, retire_ok]

/-- Settles O25: each form ends with its store, and DD_FETCH comes from the PSW before it. -/
theorem moveResult : Obligations.MoveResult := by
  refine fun i s t t' u l m => ⟨fun d p v hi hl hm hv hw => ?moveW, fun d p v hi hl hm hv hw => ?moveB,
    fun p v hi hl hw => ?constW, fun p v hi hl hw => ?constB⟩
  case moveW => exact (exec_shape s hi).trans (moveW_located hl hm hv hw)
  case moveB => exact (exec_shape s hi).trans (moveB_located hl hm hv hw)
  case constW => exact (exec_shape s hi).trans (moveImmW_located hl hw)
  case constB => exact (exec_shape s hi).trans (moveImmB_located hl hw)

/-! ## Exchanges (R135, R236 to R238) -/

theorem classW_match (k : Host.Outcome State Fault Refusal) (h : s.ddFetch = true) : classW s k = k := by
  rw [classW, h]; rfl

theorem classB_match (k : Host.Outcome State Fault Refusal) (h : s.ddFetch = false) : classB s k = k := by
  rw [classB, h]; rfl

theorem exchangeW_located {p : WOp} {v : Word} (hl : locW p s = .ok (l, t)) (hv : rdW l t = .ok v)
    (hw : wrW l t.a t = .ok u) : exchangeW p s = .next ((u.setA v).setDdFetch (Psw.dd s.psw)) := by
  simp only [exchangeW, hl, res_ok_bind, hv, hw, res_pure, retire_ok]

theorem exchangeB_located {p : BOp} {v : Byte} (hl : locB p s = .ok (l, t)) (hv : rdB l t = .ok v)
    (hw : wrB l (loByte t.a) t = .ok u) :
    exchangeB p s = .next ((u.setA (mkWord (hiByte u.a) v)).setDdFetch (Psw.dd s.psw)) := by
  simp only [exchangeB, hl, res_ok_bind, hv, hw, res_pure, retire_ok, setLo]

theorem exec_swap (s : State) : exec .swap s = retire s (.ok (s.setA (mkWord (loByte s.a) (hiByte s.a)))) := rfl

/-- Settles O26: XCHG and XCHGB run where DD_FETCH agrees with their width, and SWAP always does. -/
theorem exchangeResult : Obligations.ExchangeResult := by
  refine fun s t u l => ⟨fun p v dd hl hv hw => ?word, fun p v dd hl hv hw => ?byte, ?swap⟩
  case word =>
    calc exec (.xchgAW p) s = classW s (exchangeW p s) := exec_shape (sh := .exchW p) s rfl
      _ = exchangeW p s := classW_match _ dd
      _ = _ := exchangeW_located hl hv hw
  case byte =>
    calc exec (.xchgbAB p) s = classB s (exchangeB p s) := exec_shape (sh := .exchB p) s rfl
      _ = exchangeB p s := classB_match _ dd
      _ = _ := exchangeB_located hl hv hw
  case swap => exact (exec_swap s).trans (retire_ok s _)

end

end Sys2Proof.Machine

/-! # PUSHS and POPS -/

namespace Sys2Proof.Machine

/- One thread, as in the tests: elaborating beside them would not fit the memory of the check. -/
set_option Elab.async false

/-! ## Words of segment 0 (R83) -/

section
variable {s t u : State} {off : Word}

/-- The two bytes of a word are those that halve to the same number. -/
theorem mem_wordBytes_zero {a : Nat} : a ∈ wordBytes 0 off ↔ a / 2 = off.toNat / 2 := by
  simp only [wordBytes, key_zero, evenOff_toNat, evenOff_succ_toNat, List.mem_cons, List.not_mem_nil, or_false]
  omega

theorem not_isSfr_of_le (h : 0x200 ≤ off.toNat) : isSfr 0 off = false := by
  simp only [isSfr, Bool.and_eq_false_iff, decide_eq_false_iff_not]
  omega

/-- What a word outside the SFR area reads as depends on the device and on the word's two bytes alone. -/
theorem memReadWord_congr (notSfr : isSfr 0 off = false) (dev : t.dev = s.dev)
    (cells : ∀ a ∈ wordBytes 0 off, t.cell a = s.cell a) : memReadWord t 0 off = memReadWord s 0 off := by
  have low := cells (key 0 (evenOff off)) List.mem_cons_self
  have high := cells (key 0 (evenOff off + 1)) (List.mem_cons_of_mem _ List.mem_cons_self)
  simp only [memReadWord, memReadByte, isSfr_evenOff, isSfr_evenOff_succ, notSfr, dev, low, high,
    Bool.false_eq_true, if_false]

theorem memReadByte_ok_cell {v : Byte} (notSfr : isSfr 0 off = false) (h : memReadByte s 0 off = .ok v) :
    s.cell (key 0 off) = some v := by
  rw [memReadByte, notSfr, if_neg Bool.false_ne_true] at h
  split at h
  · split at h
    · next stored => rw [stored, Except.ok.inj h]
    · exact absurd h (stopFault_ne_ok _ _)
  · exact absurd h (stopFault_ne_ok _ _)

/-- A word that can be read stands in its two bytes. -/
theorem memReadWord_ok_cells {v : Word} (notSfr : isSfr 0 off = false) (h : memReadWord s 0 off = .ok v) :
    s.cell (key 0 (evenOff off)) = some (loByte v) ∧ s.cell (key 0 (evenOff off) + 1) = some (hiByte v) := by
  obtain ⟨l, low, h⟩ := res_bind_ok.mp h
  obtain ⟨b, high, h⟩ := res_bind_ok.mp h
  obtain rfl := Except.ok.inj h
  rw [loByte_mkWord, hiByte_mkWord, ← key_evenOff_succ]
  exact ⟨memReadByte_ok_cell ((isSfr_evenOff 0 off).trans notSfr) low,
    memReadByte_ok_cell ((isSfr_evenOff_succ 0 off).trans notSfr) high⟩

/-- Two states that read a word alike hold the same two bytes there. -/
theorem cell_eq_of_memReadWord_eq {v : Word} (notSfr : isSfr 0 off = false) (hs : memReadWord s 0 off = .ok v)
    (ht : memReadWord t 0 off = .ok v) : ∀ a ∈ wordBytes 0 off, t.cell a = s.cell a := by
  obtain ⟨low, high⟩ := memReadWord_ok_cells notSfr hs
  obtain ⟨low', high'⟩ := memReadWord_ok_cells notSfr ht
  simp only [wordBytes, key_evenOff_succ, List.forall_mem_cons, low, high, low', high', List.not_mem_nil,
    false_imp_iff, implies_true, and_self]

/-! ## The words of the stack (R106) -/

theorem sub_ofNat_toNat {k : Nat} (h : k ≤ off.toNat) : (off - BitVec.ofNat 16 k).toNat = off.toNat - k := by
  have := off.isLt
  rw [BitVec.toNat_sub, BitVec.toNat_ofNat]
  omega

theorem add_ofNat_toNat {k : Nat} (h : off.toNat + k < 0x10000) : (off + BitVec.ofNat 16 k).toNat = off.toNat + k := by
  rw [BitVec.toNat_add, BitVec.toNat_ofNat]
  omega

theorem sub_no_words (off : Word) : off - BitVec.ofNat 16 (2 * 0) = off := BitVec.sub_zero off

/-- The words down the stack from the one below SSP are the later words down from SSP. -/
theorem sub_two_sub (off : Word) (k : Nat) :
    off - 2 - BitVec.ofNat 16 (2 * k) = off - BitVec.ofNat 16 (2 * (k + 1)) := by
  rw [Nat.mul_succ, BitVec.ofNat_add, sub_sub, add_comm]
  rfl

theorem add_two_add (off : Word) (k : Nat) :
    off + 2 + BitVec.ofNat 16 (2 * k) = off + BitVec.ofNat 16 (2 * (k + 1)) := by
  rw [Nat.mul_succ, BitVec.ofNat_add, add_assoc, add_comm (2 : Word)]
  rfl

/-- Going down n words and up k of them is going down the rest. -/
theorem sub_add_ofNat (off : Word) {k n : Nat} (h : k ≤ n) :
    off - BitVec.ofNat 16 (2 * n) + BitVec.ofNat 16 (2 * k) = off - BitVec.ofNat 16 (2 * (n - k)) := by
  have total : BitVec.ofNat 16 (2 * n) = BitVec.ofNat 16 (2 * (n - k)) + BitVec.ofNat 16 (2 * k) := by
    rw [← BitVec.ofNat_add, ← Nat.mul_add, Nat.sub_add_cancel h]
  rw [total, ← sub_sub, sub_add_cancel]

/-- A pop from an ordinary word that can be read. -/
theorem pop16_of_read {v : Word} (plain : PlainWord s (s.ssp + 2)) (h : memReadWord s 0 (s.ssp + 2) = .ok v) :
    pop16 s = .ok (v, s.setSsp (s.ssp + 2)) :=
  have ⟨low, high⟩ := memReadWord_ok_cells plain.1 h
  pop16_plain plain low high

theorem RegistersPresent.congr (h : RegistersPresent s) (dev : t.dev = s.dev) : RegistersPresent t := by
  unfold RegistersPresent
  rw [dev]
  exact h

end

/-! ## A register as PUSHS and POPS reach it (R243, R244) -/

/-- A register a list can name: a pointing or local register as the word at its address, or a control register. -/
inductive StackReg where
  | word (off : Word)
  | a
  | lrb
  | psw

/-- How a push reads a register. -/
def StackReg.get (r : StackReg) (t : State) : Res Word :=
  match r with
  | .word off => memReadWord t 0 off
  | .a => .ok t.a
  | .lrb => .ok t.lrb
  | .psw => .ok t.psw

/-- How a pop writes a register. -/
def StackReg.put (r : StackReg) (w : Word) (t : State) : Res State :=
  match r with
  | .word off => memWriteWord t 0 off w
  | .a => .ok (t.setA w)
  | .lrb => .ok (t.setLrb w)
  | .psw => .ok (t.setPsw w)

/-- The bytes of data memory a register stands in. -/
def StackReg.bytes (r : StackReg) : List Nat :=
  match r with
  | .word off => wordBytes 0 off
  | .a | .lrb | .psw => []

/-- A register in memory stands at an even offset of the register area. -/
def StackReg.InArea (r : StackReg) : Prop :=
  match r with
  | .word off => InRegisters off ∧ off.toNat % 2 = 0
  | .a | .lrb | .psw => True

/-- What loading the registers `rs` can change. The end of the instruction moves the draw counter and DD_FETCH, so they
are free here too. -/
structure Loaded (rs : List StackReg) (s u : State) : Prop where
  state : u = { s with
    a := u.a, psw := u.psw, lrb := u.lrb, ssp := u.ssp, data := u.data, draws := u.draws, ddFetch := u.ddFetch }
  a : .a ∉ rs → u.a = s.a
  lrb : .lrb ∉ rs → u.lrb = s.lrb
  psw : .psw ∉ rs → u.psw = s.psw
  data : (∀ off, .word off ∉ rs) → u.data = s.data
  cells : SameCells (rs.flatMap StackReg.bytes) s u

section
variable {s t u : State} {r : StackReg} {rs : List StackReg}

theorem Loaded.dev (h : Loaded rs s u) : u.dev = s.dev := by rw [h.state]

theorem Loaded.romwin (h : Loaded rs s u) : u.romwin = s.romwin := by rw [h.state]

theorem Loaded.refl (s : State) : Loaded [] s s :=
  ⟨rfl, fun _ => rfl, fun _ => rfl, fun _ => rfl, fun _ => rfl, fun _ _ => rfl⟩

theorem Loaded.setSsp (h : Loaded rs s u) (v : Word) : Loaded rs s (u.setSsp v) :=
  ⟨by rw [h.state]; rfl, h.a, h.lrb, h.psw, h.data, h.cells⟩

theorem Loaded.retired (h : Loaded rs s u) (n : Nat) (b : Bool) : Loaded rs s ((u.draw n).setDdFetch b) :=
  ⟨by rw [h.state]; rfl, h.a, h.lrb, h.psw, h.data, h.cells⟩

theorem Loaded.trans {qs : List StackReg} (h : Loaded qs s t) (k : Loaded rs t u) : Loaded (qs ++ rs) s u where
  state := k.state.trans (by rw [h.state])
  a no := (k.a fun m => no (List.mem_append_right _ m)).trans (h.a fun m => no (List.mem_append_left _ m))
  lrb no := (k.lrb fun m => no (List.mem_append_right _ m)).trans (h.lrb fun m => no (List.mem_append_left _ m))
  psw no := (k.psw fun m => no (List.mem_append_right _ m)).trans (h.psw fun m => no (List.mem_append_left _ m))
  data no := (k.data fun off m => no off (List.mem_append_right _ m)).trans
    (h.data fun off m => no off (List.mem_append_left _ m))
  cells a no := by
    rw [List.flatMap_append, List.mem_append, not_or] at no
    exact (k.cells a no.2).trans (h.cells a no.1)

theorem StackReg.bytes_lt {a : Nat} (area : r.InArea) (h : a ∈ r.bytes) : a < 0xA00 := by
  cases r with
  | word off =>
    have := mem_wordBytes_zero.mp h
    have := area.1.2
    omega
  | a | lrb | psw => exact absurd h List.not_mem_nil

/-- The registers of memory share no byte. -/
theorem StackReg.eq_of_mem_bytes {q : StackReg} {a : Nat} (hq : q.InArea) (hr : r.InArea) (mq : a ∈ q.bytes)
    (mr : a ∈ r.bytes) : q = r := by
  match q, r, mq, mr with
  | .word x, .word y, mx, my =>
    have hx := mem_wordBytes_zero.mp mx
    have hy := mem_wordBytes_zero.mp my
    have evenX := hq.2
    have evenY := hr.2
    exact congrArg StackReg.word (BitVec.eq_of_toNat_eq (by omega))

/-- Loading registers leaves memory above the register area. -/
theorem Loaded.cell_above (h : Loaded rs s u) (area : ∀ r ∈ rs, r.InArea) {a : Nat} (above : 0xA00 ≤ a) :
    u.cell a = s.cell a := by
  refine h.cells a fun m => ?_
  obtain ⟨r, mr, ma⟩ := List.mem_flatMap.mp m
  have := StackReg.bytes_lt (area r mr) ma
  omega

theorem Loaded.read_above (h : Loaded rs s u) (area : ∀ r ∈ rs, r.InArea) {off : Word} (above : 0xA00 ≤ off.toNat) :
    memReadWord u 0 off = memReadWord s 0 off := by
  refine memReadWord_congr (not_isSfr_of_le (by omega)) h.dev fun a m => h.cell_above area ?_
  have := mem_wordBytes_zero.mp m
  omega

/-- Loading registers leaves every other register. -/
theorem Loaded.get_of_not_mem (h : Loaded rs s u) (areas : ∀ r ∈ rs, r.InArea) (area : r.InArea) (no : r ∉ rs) :
    r.get u = r.get s := by
  cases r with
  | word off =>
    refine memReadWord_congr area.1.not_sfr h.dev fun a ma => h.cells a fun m => no ?_
    obtain ⟨q, mq, maq⟩ := List.mem_flatMap.mp m
    exact StackReg.eq_of_mem_bytes (r := .word off) (areas q mq) area maq ma ▸ mq
  | a => exact congrArg Except.ok (h.a no)
  | lrb => exact congrArg Except.ok (h.lrb no)
  | psw => exact congrArg Except.ok (h.psw no)

theorem StackReg.get_ok (present : RegistersPresent s) (area : r.InArea) : ∃ v, r.get s = .ok v := by
  cases r with
  | word off => exact registerWord_reads present area.1
  | a | lrb | psw => exact ⟨_, rfl⟩

/-- A write of a register completes, reads back and changes nothing else. -/
theorem StackReg.put_get (present : RegistersPresent s) (area : r.InArea) (v : Word) :
    ∃ t, r.put v s = .ok t ∧ r.get t = .ok v ∧ t.ssp = s.ssp ∧ Loaded [r] s t := by
  cases r with
  | word off =>
    obtain ⟨t, written, read, data, kept⟩ := registerWord_reads_back present area.1 v
    refine ⟨t, written, read, by rw [data]; rfl, by rw [data]; rfl, fun _ => by rw [data]; rfl, fun _ => by rw [data]; rfl,
      fun _ => by rw [data]; rfl, fun no => absurd List.mem_cons_self (no off), ?_⟩
    simpa only [List.flatMap_cons, List.flatMap_nil, List.append_nil, StackReg.bytes] using kept
  | a => exact ⟨_, rfl, rfl, rfl, rfl, fun no => absurd List.mem_cons_self no, fun _ => rfl, fun _ => rfl, fun _ => rfl,
      fun _ _ => rfl⟩
  | lrb => exact ⟨_, rfl, rfl, rfl, rfl, fun _ => rfl, fun no => absurd List.mem_cons_self no, fun _ => rfl, fun _ => rfl,
      fun _ _ => rfl⟩
  | psw => exact ⟨_, rfl, rfl, rfl, rfl, fun _ => rfl, fun _ => rfl, fun no => absurd List.mem_cons_self no, fun _ => rfl,
      fun _ _ => rfl⟩

/-! ## Pushing registers -/

/-- What a push of the registers `rs` leaves, for a stack above the register area. -/
structure Pushed (rs : List StackReg) (s t : State) : Prop where
  state : t = (s.setData t.data).setSsp (s.ssp - BitVec.ofNat 16 (2 * rs.length))
  cells : ∀ a, (∀ k, k < rs.length → a ∉ wordBytes 0 (s.ssp - BitVec.ofNat 16 (2 * k))) → t.cell a = s.cell a
  slots : ∀ k r, rs[k]? = some r → memReadWord t 0 (s.ssp - BitVec.ofNat 16 (2 * k)) = r.get s

/-- A register's value is the same after a push above the register area. -/
theorem StackReg.get_of_state {d : List Host.Cell} {v : Word} (area : r.InArea) (state : t = (s.setData d).setSsp v)
    (cells : ∀ a < 0xA00, t.cell a = s.cell a) : r.get t = r.get s := by
  cases r with
  | word off =>
    exact memReadWord_congr area.1.not_sfr (by rw [state]; rfl) fun a m => cells a
      (StackReg.bytes_lt (r := .word off) area m)
  | a | lrb | psw => rw [state]; rfl

/-- The words of the stack below the one at SSP do not reach it. -/
theorem not_mem_wordBytes_below {k a : Nat} (fits : 2 * (k + 1) ≤ s.ssp.toNat) (h : a ∈ wordBytes 0 s.ssp) :
    a ∉ wordBytes 0 (s.ssp - BitVec.ofNat 16 (2 * (k + 1))) := by
  rw [mem_wordBytes_zero] at h ⊢
  rw [sub_ofNat_toNat fits]
  omega

/-- Pushing registers above the register area completes: each push leaves the registers after it, and the words pushed
before it. -/
theorem pushReads_regs (present : RegistersPresent s) (area : ∀ r ∈ rs, r.InArea)
    (above : 0xA00 + 2 * rs.length ≤ s.ssp.toNat)
    (plain : ∀ k, k < rs.length → PlainWord s (s.ssp - BitVec.ofNat 16 (2 * k))) :
    ∃ t, pushReads (rs.map StackReg.get) s = .ok t ∧ Pushed rs s t := by
  induction rs generalizing s with
  | nil => exact ⟨s, rfl, (sub_no_words s.ssp).symm ▸ rfl, fun _ _ => rfl, fun k r h => by simp at h⟩
  | cons r rs ih =>
    rw [List.length_cons] at above plain
    have first : PlainWord s s.ssp := sub_no_words s.ssp ▸ plain 0 (Nat.succ_pos _)
    obtain ⟨v, read⟩ := StackReg.get_ok present (area r List.mem_cons_self)
    obtain ⟨p, pushed, state, low, high, kept⟩ := push16_stored v first
    have ssp : p.ssp = s.ssp - 2 := by rw [state]; rfl
    have dev : p.dev = s.dev := by rw [state]; rfl
    have sspNat : p.ssp.toNat = s.ssp.toNat - 2 := ssp ▸ sub_ofNat_toNat (k := 2) (by omega)
    have below (k : Nat) : p.ssp - BitVec.ofNat 16 (2 * k) = s.ssp - BitVec.ofNat 16 (2 * (k + 1)) :=
      ssp ▸ sub_two_sub s.ssp k
    have registers : ∀ a < 0xA00, p.cell a = s.cell a := fun a ha => kept a fun m => by
      have := mem_wordBytes_zero.mp m
      omega
    obtain ⟨t, rest, done⟩ := ih (present.congr dev) (fun q m => area q (List.mem_cons_of_mem _ m)) (by omega)
      fun k hk => (below k ▸ plain (k + 1) (by omega)).congr dev (by rw [state]; rfl)
    refine ⟨t, ?_, ?_, fun a no => ?_, fun k q hq => ?_⟩
    · rw [List.map_cons, pushReads, read, res_ok_bind, pushed, res_ok_bind, rest]
    · refine done.state.trans ?_
      rw [below, state]
      rfl
    · have lower := done.cells a fun k hk => below k ▸ no (k + 1) (Nat.succ_lt_succ hk)
      exact lower.trans (kept a (sub_no_words s.ssp ▸ no 0 (Nat.succ_pos _)))
    · cases k with
      | zero =>
        obtain rfl : r = q := Option.some.inj hq
        obtain ⟨notSfr, there, there', -⟩ := first
        have stored := memReadWord_plain (s := p) notSfr (dev ▸ there)
          (key_evenOff_succ 0 s.ssp ▸ dev ▸ there') low high
        have survives := memReadWord_congr (s := p) (t := t) notSfr (by rw [done.state]; rfl) fun a m =>
          done.cells a fun k hk => below k ▸ not_mem_wordBytes_below (by omega) m
        rw [mkWord_hi_lo] at stored
        rw [sub_no_words, survives, stored, read]
      | succ k =>
        have later : q ∈ rs := List.mem_of_getElem? hq
        rw [← below, done.slots k q hq]
        exact StackReg.get_of_state (area q (List.mem_cons_of_mem _ later)) state registers

/-! ## Popping registers -/

/-- What a pop of the registers `rs` leaves, for a stack above the register area. -/
structure Popped (rs : List StackReg) (s u : State) : Prop extends Loaded rs s u where
  ssp : u.ssp = s.ssp + BitVec.ofNat 16 (2 * rs.length)
  slots : ∀ k r, rs[k]? = some r → r.get u = memReadWord s 0 (s.ssp + BitVec.ofNat 16 (2 * (k + 1)))

/-- Popping different registers above the register area completes: each write leaves the stack, and the registers written
before it. -/
theorem popEach_regs (present : RegistersPresent s) (area : ∀ r ∈ rs, r.InArea) (nodup : rs.Nodup)
    (above : 0x9FE ≤ s.ssp.toNat) (fits : s.ssp.toNat + 2 * rs.length < 0x10000)
    (plain : ∀ k, k < rs.length → PlainWord s (s.ssp + BitVec.ofNat 16 (2 * (k + 1))) ∧
      ∃ v, memReadWord s 0 (s.ssp + BitVec.ofNat 16 (2 * (k + 1))) = .ok v) :
    ∃ u, popEach (rs.map fun r => (true, r.put)) s = .ok u ∧ Popped rs s u := by
  induction rs generalizing s with
  | nil => exact ⟨s, rfl, Loaded.refl s, (BitVec.add_zero s.ssp).symm, fun k r h => by simp at h⟩
  | cons r rs ih =>
    rw [List.length_cons] at fits plain
    obtain ⟨first, v, read⟩ := plain 0 (Nat.succ_pos _)
    have areas : ∀ q ∈ rs, q.InArea := fun q m => area q (List.mem_cons_of_mem _ m)
    have popped : pop16 s = .ok (v, s.setSsp (s.ssp + 2)) := pop16_of_read first read
    obtain ⟨p, written, holds, sspPut, one⟩ :=
      StackReg.put_get (s := s.setSsp (s.ssp + 2)) (present.congr rfl) (area r List.mem_cons_self) v
    have ssp : p.ssp = s.ssp + 2 := sspPut
    have loaded : Loaded [r] s p := ((Loaded.refl s).setSsp (s.ssp + 2)).trans one
    have sspNat : p.ssp.toNat = s.ssp.toNat + 2 := ssp ▸ add_ofNat_toNat (k := 2) (by omega)
    have upper (k : Nat) : p.ssp + BitVec.ofNat 16 (2 * (k + 1)) = s.ssp + BitVec.ofNat 16 (2 * (k + 1 + 1)) :=
      ssp ▸ add_two_add s.ssp (k + 1)
    have same {k : Nat} (hk : k < rs.length) : memReadWord p 0 (p.ssp + BitVec.ofNat 16 (2 * (k + 1))) =
        memReadWord s 0 (s.ssp + BitVec.ofNat 16 (2 * (k + 1 + 1))) := by
      rw [upper]
      refine loaded.read_above (by simpa using area r List.mem_cons_self) ?_
      rw [add_ofNat_toNat (by omega)]
      omega
    obtain ⟨u, rest, done⟩ := ih (present.congr loaded.dev) areas nodup.of_cons (by omega) (by omega) fun k hk => by
      obtain ⟨ordinary, w, hw⟩ := plain (k + 1) (by omega)
      exact ⟨upper k ▸ ordinary.congr loaded.dev loaded.romwin, w, (same hk).trans hw⟩
    refine ⟨u, ?_, loaded.trans done.toLoaded, ?_, fun k q hq => ?_⟩
    · simp only [List.map_cons, popEach, if_true, popped, res_ok_bind, written, rest]
    · rw [done.ssp, ssp, add_two_add, List.length_cons]
    · cases k with
      | zero =>
        obtain rfl : r = q := Option.some.inj hq
        have kept := done.get_of_not_mem areas (area r List.mem_cons_self) (List.nodup_cons.mp nodup).1
        exact kept.trans (holds.trans read.symm)
      | succ k => exact (done.slots k q hq).trans (same (Nat.lt_of_succ_lt_succ (List.getElem?_eq_some_iff.mp hq).1))

end

/-! ## The registers a list names (R240) -/

/-- The entries that are named. -/
def listed {α : Type} (rs : List (Bool × α)) : List α := (rs.filter Prod.fst).map Prod.snd

/-- The registers of a list in the order of PUSHS, at their addresses in a state. -/
def stackRegs (l : RegList) (s : State) : List (Bool × StackReg) :=
  match l with
  | .er e0 e1 e2 e3 =>
    [(e3, .word (s.rAddr 6)), (e2, .word (s.rAddr 4)), (e1, .word (s.rAddr 2)), (e0, .word (s.rAddr 0))]
  | .pr x1 x2 dp usp =>
    [(usp, .word (s.prAddr .usp)), (dp, .word (s.prAddr .dp)), (x2, .word (s.prAddr .x2)), (x1, .word (s.prAddr .x1))]
  | .cr a lrb psw => [(a, .a), (lrb, .lrb), (psw, .psw)]

/-- How many of the first i entries are named. -/
def namedBefore {α : Type} (i : Nat) (rs : List (Bool × α)) : Nat := ((rs.take i).map fun r => r.1.toNat).sum

section
variable {α β : Type} {x : α} {rs : List (Bool × α)}

theorem listed_nil : listed ([] : List (Bool × α)) = [] := rfl

theorem listed_named (x : α) (rs : List (Bool × α)) : listed ((true, x) :: rs) = x :: listed rs := rfl

theorem listed_unnamed (x : α) (rs : List (Bool × α)) : listed ((false, x) :: rs) = listed rs := rfl

theorem mem_listed : x ∈ listed rs ↔ (true, x) ∈ rs := by
  simp only [listed, List.mem_map, List.mem_filter, Prod.exists]
  exact ⟨fun ⟨_, _, ⟨m, named⟩, e⟩ => e ▸ named ▸ m, fun m => ⟨_, _, ⟨m, rfl⟩, rfl⟩⟩

theorem listed_reverse (rs : List (Bool × α)) : listed rs.reverse = (listed rs).reverse := by
  simp only [listed, List.filter_reverse, List.map_reverse]

theorem map_listed_cons (f : α → β) (r : Bool × α) (rs : List (Bool × α)) :
    (listed (r :: rs)).map f = (if r.1 then [f r.2] else []) ++ (listed rs).map f := by
  obtain ⟨_ | _, x⟩ := r <;> rfl

theorem flatMap_listed_cons (f : α → List β) (r : Bool × α) (rs : List (Bool × α)) :
    (listed (r :: rs)).flatMap f = (if r.1 then f r.2 else []) ++ (listed rs).flatMap f := by
  obtain ⟨_ | _, x⟩ := r <;> rfl

theorem flatMap_listed_four (f : α → List β) (p q r v : Bool × α) : (listed [p, q, r, v]).flatMap f =
    (if p.1 then f p.2 else []) ++ (if q.1 then f q.2 else []) ++ (if r.1 then f r.2 else [])
      ++ (if v.1 then f v.2 else []) := by
  simp only [flatMap_listed_cons, listed_nil, List.flatMap_nil, List.append_nil, List.append_assoc]

theorem length_listed_cons (b : Bool) (x : α) (rs : List (Bool × α)) :
    (listed ((b, x) :: rs)).length = b.toNat + (listed rs).length := by
  cases b
  · exact (Nat.zero_add _).symm
  · exact Nat.add_comm _ _

/-- A named entry stands behind as many named ones as come before it. -/
theorem getElem?_listed {i : Nat} (h : rs[i]? = some (true, x)) :
    (listed rs)[namedBefore i rs]? = some x := by
  induction rs generalizing i with
  | nil => simp at h
  | cons r rs ih =>
    cases i with
    | zero => rw [Option.some.inj h]; rfl
    | succ i =>
      have later := ih h
      obtain ⟨_ | _, y⟩ := r
      · simpa [listed_unnamed, namedBefore] using later
      · simpa [listed_named, namedBefore, Nat.add_comm 1] using later

end

section
variable {s t u : State} {l : RegList}

theorem pushEach_eq_pushReads (rs : List (Bool × StackReg)) (s : State) :
    pushEach (rs.map fun r => (r.1, r.2.get)) s = pushReads ((listed rs).map StackReg.get) s := by
  induction rs generalizing s with
  | nil => rfl
  | cons r rs ih =>
    obtain ⟨_ | _, r⟩ := r
    · exact ih s
    · simp only [listed_named, List.map_cons, pushEach, pushReads, if_true, ih]

theorem popEach_eq_listed (rs : List (Bool × StackReg)) (s : State) :
    popEach (rs.map fun r => (r.1, r.2.put)) s = popEach ((listed rs).map fun r => (true, r.put)) s := by
  induction rs generalizing s with
  | nil => rfl
  | cons r rs ih =>
    obtain ⟨_ | _, r⟩ := r
    · exact ih s
    · simp only [listed_named, List.map_cons, popEach, if_true, ih]

/-- PUSHS reads the registers of the list in its order (R243). -/
theorem pushOrder_eq (l : RegList) (s : State) : pushOrder l s = (stackRegs l s).map fun r => (r.1, r.2.get) := by
  cases l <;> rfl

/-- POPS writes them in the opposite order (R244). -/
theorem popOrder_eq (l : RegList) (s : State) :
    popOrder l s = (stackRegs l s).reverse.map fun r => (r.1, r.2.put) := by
  cases l <;> rfl

theorem exec_pushs (l : RegList) (s : State) :
    exec (.pushs l) s = retire s (pushReads ((listed (stackRegs l s)).map StackReg.get) s) := by
  rw [← pushEach_eq_pushReads, ← pushOrder_eq]
  rfl

/-- POPS ends with the registers loaded; DD_FETCH, and the draw for it, depend on PSW being named. -/
theorem exec_pops_ok (h : popEach ((listed (stackRegs l s)).reverse.map fun r => (true, r.put)) s = .ok u) :
    ∃ n b, exec (.pops l) s = .next ((u.draw n).setDdFetch b) := by
  rw [← listed_reverse, ← popEach_eq_listed, ← popOrder_eq] at h
  cases named : namesPsw l with
  | false =>
    refine ⟨0, Psw.dd s.psw, ?_⟩
    calc exec (.pops l) s = retire s (popEach (popOrder l s) s) := if_neg (ne_true_of_eq_false named)
      _ = _ := by rw [h]; rfl
  | true =>
    refine ⟨1, if Config.freeBit u.draws then Psw.dd u.psw else Psw.dd s.psw, ?_⟩
    calc exec (.pops l) s = retireDraw s (popEach (popOrder l s) s) := if_pos named
      _ = _ := by rw [h]; rfl

theorem length_listed_stackRegs (l : RegList) (s : State) : (listed (stackRegs l s)).length = RegList.count l := by
  cases l <;> simp only [stackRegs, length_listed_cons, listed_nil, List.length_nil, RegList.count] <;> omega

theorem count_le (l : RegList) : RegList.count l ≤ 4 := by
  have le (b : Bool) : b.toNat ≤ 1 := Bool.toNat_le b
  cases l with
  | er a b c d | pr a b c d => have := le a; have := le b; have := le c; have := le d; simp only [RegList.count]; omega
  | cr a b c => have := le a; have := le b; have := le c; simp only [RegList.count]; omega

theorem word_rAddr_inArea (s : State) {n : Nat} (h : n < 8) (even : n % 2 = 0) :
    (StackReg.word (s.rAddr n)).InArea :=
  ⟨inRegisters_rAddr s h, by rw [rAddr_toNat s n h]; omega⟩

theorem word_prAddr_inArea (s : State) (n : PR) : (StackReg.word (s.prAddr n)).InArea :=
  ⟨inRegisters_prAddr s n, by rw [prAddr_toNat]; omega⟩

/-- The local registers in memory stand at an even offset of the register area, and so do the pointing registers. -/
theorem inArea_of_mem_listed : ∀ r ∈ listed (stackRegs l s), r.InArea := by
  intro r m
  have among := mem_listed.mp m
  cases l <;> simp only [stackRegs, List.mem_cons, Prod.mk.injEq, List.not_mem_nil, or_false] at among
  case er =>
    obtain ⟨_, rfl⟩ | ⟨_, rfl⟩ | ⟨_, rfl⟩ | ⟨_, rfl⟩ := among <;> exact word_rAddr_inArea s (by decide) rfl
  case pr => obtain ⟨_, rfl⟩ | ⟨_, rfl⟩ | ⟨_, rfl⟩ | ⟨_, rfl⟩ := among <;> exact word_prAddr_inArea s _
  case cr => obtain ⟨_, rfl⟩ | ⟨_, rfl⟩ | ⟨_, rfl⟩ := among <;> trivial

theorem rAddr_inj {m n : Nat} (hm : m < 8) (hn : n < 8) : s.rAddr m = s.rAddr n ↔ m = n := by
  refine ⟨fun h => ?_, congrArg _⟩
  have := congrArg BitVec.toNat h
  rw [rAddr_toNat s m hm, rAddr_toNat s n hn] at this
  omega

theorem pr_num_inj {m n : PR} (h : m.num = n.num) : m = n := by
  revert h
  cases m <;> cases n <;> decide

theorem prAddr_inj {m n : PR} : s.prAddr m = s.prAddr n ↔ m = n := by
  refine ⟨fun h => pr_num_inj ?_, congrArg _⟩
  have nums := congrArg BitVec.toNat h
  rw [prAddr_toNat, prAddr_toNat] at nums
  omega

/-- A list names a register once. -/
theorem nodup_listed_stackRegs (l : RegList) (s : State) : (listed (stackRegs l s)).Nodup := by
  refine List.Nodup.sublist (List.Sublist.map _ List.filter_sublist) ?_
  cases l <;> simp [stackRegs, rAddr_inj, prAddr_inj]

/-! ## The instructions (R242 to R244) -/

/-- PUSHS of a list above the register area completes. -/
theorem exec_pushs_pushed (present : RegistersPresent s) (above : 0xA08 ≤ s.ssp.toNat)
    (plain : ∀ k, k < 4 → PlainWord s (s.ssp - BitVec.ofNat 16 (2 * k))) :
    ∃ t, exec (.pushs l) s = .next (t.setDdFetch (Psw.dd s.psw)) ∧ Pushed (listed (stackRegs l s)) s t := by
  have few := count_le l
  rw [← length_listed_stackRegs l s] at few
  obtain ⟨t, pushed, done⟩ := pushReads_regs present inArea_of_mem_listed (by omega) fun k hk =>
    plain k (Nat.lt_of_lt_of_le hk few)
  exact ⟨t, by rw [exec_pushs, pushed, retire_ok], done⟩

theorem StackReg.get_draw (r : StackReg) (t : State) (n : Nat) : r.get (t.draw n) = r.get t := by cases r <;> rfl

theorem StackReg.get_setDdFetch (r : StackReg) (t : State) (b : Bool) : r.get (t.setDdFetch b) = r.get t := by
  cases r <;> rfl

theorem Popped.retired {rs : List StackReg} (h : Popped rs s u) (n : Nat) (b : Bool) :
    Popped rs s ((u.draw n).setDdFetch b) :=
  ⟨h.toLoaded.retired n b, h.ssp, fun k r hr => by rw [r.get_setDdFetch, r.get_draw]; exact h.slots k r hr⟩

/-- POPS of a list above the register area completes. -/
theorem exec_pops_popped (present : RegistersPresent s) (above : 0x9FE ≤ s.ssp.toNat)
    (fits : s.ssp.toNat + 2 * RegList.count l < 0x10000)
    (plain : ∀ k, k < RegList.count l → PlainWord s (s.ssp + BitVec.ofNat 16 (2 * (k + 1))) ∧
      ∃ v, memReadWord s 0 (s.ssp + BitVec.ofNat 16 (2 * (k + 1))) = .ok v) :
    ∃ u, exec (.pops l) s = .next u ∧ Popped (listed (stackRegs l s)).reverse s u := by
  have length : (listed (stackRegs l s)).reverse.length = RegList.count l :=
    List.length_reverse.trans (length_listed_stackRegs l s)
  obtain ⟨u, popped, done⟩ := popEach_regs present (fun r m => inArea_of_mem_listed r (List.mem_reverse.mp m))
    (List.nodup_reverse.mpr (nodup_listed_stackRegs l s)) above (length ▸ fits) (length ▸ plain)
  obtain ⟨n, b, ends⟩ := exec_pops_ok popped
  exact ⟨_, ends, done.retired n b⟩

/-- PUSHS A pushes A on an ordinary word (R242). -/
theorem exec_pushsA_stored (plain : PlainWord s s.ssp) :
    ∃ t, exec .pushsA s = .next t ∧ memReadWord t 0 s.ssp = .ok s.a ∧ SameCells (wordBytes 0 s.ssp) s t ∧
      t = ((s.setData t.data).setSsp (s.ssp - 2)).setDdFetch (Psw.dd s.psw) := by
  obtain ⟨t, pushed, state, low, high, kept⟩ := push16_stored s.a plain
  have dev : t.dev = s.dev := by rw [state]; rfl
  obtain ⟨notSfr, there, there', -⟩ := plain
  have read := memReadWord_plain (s := t) notSfr (dev ▸ there) (key_evenOff_succ 0 s.ssp ▸ dev ▸ there') low high
  rw [mkWord_hi_lo] at read
  refine ⟨t.setDdFetch (Psw.dd s.psw), ?_, read, kept, congrArg (·.setDdFetch (Psw.dd s.psw)) state⟩
  calc exec .pushsA s = retire s (push16 s s.a) := rfl
    _ = _ := by rw [pushed, retire_ok]

/-- PUSHS of a list runs the reads of its registers, each at its turn (R111, R243). -/
theorem exec_pushs_of_reads {reads : List (State → Res Word)} (h : pushReads reads s = .ok u)
    (order : (listed (stackRegs l s)).map StackReg.get = reads) :
    exec (.pushs l) s = .next (u.setDdFetch (Psw.dd s.psw)) := by
  rw [exec_pushs, order, h, retire_ok]

theorem one_add_two (k m : Nat) : 1 + (k + m) = 1 + k + m := (Nat.add_assoc 1 k m).symm

theorem one_add_three (k m n : Nat) : 1 + (k + (m + n)) = 1 + k + m + n := by omega

/-- Where the i-th register of the push order stands after PUSHS. -/
theorem Pushed.slot (h : Pushed (listed (stackRegs l s)) s t) (b : Bool) (i : Nat) {n : Nat} (r : StackReg)
    (named : (stackRegs l s)[i]? = some (true, r)) (place : namedBefore i (stackRegs l s) = n) :
    memReadWord (t.setDdFetch b) 0 (s.ssp - BitVec.ofNat 16 (2 * n)) = r.get s :=
  place ▸ h.slots _ r (getElem?_listed named)

/-- What the i-th register of the pop order holds after POPS. -/
theorem Popped.slot (h : Popped (listed (stackRegs l s)).reverse s u) (i : Nat) {n : Nat} (r : StackReg)
    (named : (stackRegs l s).reverse[i]? = some (true, r)) (place : 1 + namedBefore i (stackRegs l s).reverse = n) :
    r.get u = memReadWord s 0 (s.ssp + BitVec.ofNat 16 (2 * n)) := by
  rw [← listed_reverse] at h
  rw [← place, Nat.add_comm]
  exact h.slots _ r (getElem?_listed named)

theorem Popped.sameCells {bs : List Nat} (h : Popped (listed (stackRegs l s)).reverse s u)
    (order : (listed (stackRegs l s).reverse).flatMap StackReg.bytes = bs) : SameCells bs s u := by
  rw [← order, listed_reverse]
  exact h.cells

theorem Loaded.keptRest {rs : List StackReg} (h : Loaded rs s u) (lrb : u.lrb = s.lrb) : KeptRest s u :=
  ⟨lrb, by rw [h.state], by rw [h.state], by rw [h.state], by rw [h.state], by rw [h.state], by rw [h.state],
    by rw [h.state], by rw [h.state], by rw [h.state]⟩

theorem not_mem_reverse_listed {α : Type} {x : α} {rs : List (Bool × α)}
    (h : (true, x) ∉ rs) : x ∉ (listed rs).reverse :=
  fun m => h (mem_listed.mp (List.mem_reverse.mp m))

/-! ## POPS after PUSHS -/

/-- Pushing above the register area leaves every register. -/
theorem Pushed.get_eq {rs : List StackReg} {r : StackReg} (h : Pushed rs s t)
    (above : 0xA00 + 2 * rs.length ≤ s.ssp.toNat) (area : r.InArea) : r.get t = r.get s := by
  refine StackReg.get_of_state area h.state fun a register => h.cells a fun k hk m => ?_
  rw [mem_wordBytes_zero, sub_ofNat_toNat (by omega)] at m
  omega

/-- The stack words upwards after a push are the pushed words from the last. -/
theorem Pushed.ssp_add {rs : List StackReg} (h : Pushed rs s t) (b : Bool) {k : Nat} (hk : k ≤ rs.length) :
    (t.setDdFetch b).ssp + BitVec.ofNat 16 (2 * k) = s.ssp - BitVec.ofNat 16 (2 * (rs.length - k)) := by
  have ssp : (t.setDdFetch b).ssp = s.ssp - BitVec.ofNat 16 (2 * rs.length) := by rw [h.state]; rfl
  rw [ssp, sub_add_ofNat _ hk]

/-- POPS in the opposite order gives every register its value before PUSHS: a named one from the word it was pushed to, and
the others stay. -/
theorem get_of_pushed_popped {rs : List StackReg} {r : StackReg} {b : Bool} (areas : ∀ q ∈ rs, q.InArea)
    (area : r.InArea) (above : 0xA00 + 2 * rs.length ≤ s.ssp.toNat) (pushed : Pushed rs s t)
    (popped : Popped rs.reverse (t.setDdFetch b) u) : r.get u = r.get s := by
  by_cases named : r ∈ rs
  · obtain ⟨k, hk, rfl⟩ := List.mem_iff_getElem.mp named
    have back : rs.reverse[rs.length - 1 - k]? = some rs[k] := by
      rw [List.getElem?_reverse (by omega), Nat.sub_sub_self (by omega), List.getElem?_eq_getElem hk]
    have place : (t.setDdFetch b).ssp + BitVec.ofNat 16 (2 * (rs.length - 1 - k + 1)) =
        s.ssp - BitVec.ofNat 16 (2 * k) := by
      rw [pushed.ssp_add b (by omega), show rs.length - (rs.length - 1 - k + 1) = k by omega]
    calc rs[k].get u = memReadWord t 0 ((t.setDdFetch b).ssp + BitVec.ofNat 16 (2 * (rs.length - 1 - k + 1))) :=
          popped.slots _ _ back
      _ = memReadWord t 0 (s.ssp - BitVec.ofNat 16 (2 * k)) := by rw [place]
      _ = rs[k].get s := pushed.slots k _ (List.getElem?_eq_getElem hk)
  · calc r.get u = r.get (t.setDdFetch b) :=
          popped.get_of_not_mem (fun q m => areas q (List.mem_reverse.mp m)) area fun m => named (List.mem_reverse.mp m)
      _ = r.get t := r.get_setDdFetch t b
      _ = r.get s := pushed.get_eq above area

/-- A byte that no push reached holds what it held: in a register that was named as its word reads, elsewhere as POPS and
PUSHS both leave it. -/
theorem cell_of_pushed_popped {rs : List StackReg} {b : Bool} {a : Nat} (present : RegistersPresent s)
    (areas : ∀ q ∈ rs, q.InArea) (above : 0xA00 + 2 * rs.length ≤ s.ssp.toNat) (pushed : Pushed rs s t)
    (popped : Popped rs.reverse (t.setDdFetch b) u)
    (beside : ∀ k, k < rs.length → a ∉ wordBytes 0 (s.ssp - BitVec.ofNat 16 (2 * k))) : u.cell a = s.cell a := by
  by_cases inRegister : a ∈ rs.reverse.flatMap StackReg.bytes
  · obtain ⟨r, m, byte⟩ := List.mem_flatMap.mp inRegister
    have area := areas r (List.mem_reverse.mp m)
    obtain ⟨v, before⟩ := StackReg.get_ok present area
    have after := (get_of_pushed_popped areas area above pushed popped).trans before
    match r with
    | .word off => exact cell_eq_of_memReadWord_eq area.1.not_sfr before after a byte
  · exact (popped.cells a inRegister).trans (pushed.cells a beside)

/-- A list names the same registers after PUSHS: neither LRB nor PSW moves. -/
theorem Pushed.stackRegs_eq {rs : List StackReg} (h : Pushed rs s t) (l : RegList) (b : Bool) :
    stackRegs l (t.setDdFetch b) = stackRegs l s := by
  rw [h.state]
  cases l <;> rfl

/-- The words a push leaves can be popped. -/
theorem Pushed.poppable {rs : List StackReg} (h : Pushed rs s t) (present : RegistersPresent s)
    (areas : ∀ r ∈ rs, r.InArea) (plain : ∀ k, k < 4 → PlainWord s (s.ssp - BitVec.ofNat 16 (2 * k)))
    (few : rs.length ≤ 4) (b : Bool) {k : Nat} (hk : k < rs.length) :
    PlainWord (t.setDdFetch b) ((t.setDdFetch b).ssp + BitVec.ofNat 16 (2 * (k + 1))) ∧
      ∃ v, memReadWord (t.setDdFetch b) 0 ((t.setDdFetch b).ssp + BitVec.ofNat 16 (2 * (k + 1))) = .ok v := by
  have place : rs.length - (k + 1) < rs.length := by omega
  rw [h.ssp_add b hk]
  refine ⟨(plain _ (by omega)).congr (by rw [h.state]; rfl) (by rw [h.state]; rfl), ?_⟩
  obtain ⟨v, read⟩ := StackReg.get_ok present (areas _ (List.getElem_mem place))
  exact ⟨v, (h.slots _ _ (List.getElem?_eq_getElem place)).trans read⟩

/-- POPS of a list after PUSHS of it completes. -/
theorem exec_pops_pushed (pushed : Pushed (listed (stackRegs l s)) s t) (present : RegistersPresent s)
    (above : 0xA08 ≤ s.ssp.toNat) (plain : ∀ k, k < 4 → PlainWord s (s.ssp - BitVec.ofNat 16 (2 * k))) (b : Bool) :
    ∃ u, exec (.pops l) (t.setDdFetch b) = .next u ∧ Popped (listed (stackRegs l s)).reverse (t.setDdFetch b) u := by
  have few := count_le l
  have length := length_listed_stackRegs l s
  have ssp : (t.setDdFetch b).ssp.toNat = s.ssp.toNat - 2 * RegList.count l := by
    rw [pushed.state, ← length]
    exact sub_ofNat_toNat (by omega)
  have isLt := s.ssp.isLt
  rw [← pushed.stackRegs_eq l b]
  exact exec_pops_popped (present.congr (by rw [pushed.state]; rfl)) (by omega) (by omega) fun k hk =>
    pushed.poppable present inArea_of_mem_listed plain (length ▸ few) b (length.symm ▸ hk)

end

/-! ## The statements settled -/

/-- Settles O21: a list is the reads of its registers in order, and above the register area they complete. -/
theorem pushRegisters : Obligations.PushRegisters := by
  refine fun s => ⟨exec_pushsA_stored, ?reads, fun l present above plain => ?_⟩
  case reads =>
    refine fun u => ⟨fun e0 e1 e2 e3 h => exec_pushs_of_reads h ?_, fun x1 x2 dp usp h => exec_pushs_of_reads h ?_,
      fun a l p h => exec_pushs_of_reads h ?_⟩ <;>
    · simp only [stackRegs, map_listed_cons, listed_nil, List.map_nil, List.append_nil, List.append_assoc]
      rfl
  obtain ⟨t, ends, done⟩ := exec_pushs_pushed (l := l) present above plain
  have length := length_listed_stackRegs l s
  refine ⟨_, ends, ?_, fun a no => done.cells a (length.symm ▸ no), ?_⟩
  · rw [← length]
    exact congrArg (·.setDdFetch (Psw.dd s.psw)) done.state
  cases l with
  | er e0 e1 e2 e3 =>
    exact ⟨fun named => done.slot _ 0 (.word (s.rAddr 6)) (named ▸ rfl) rfl,
      fun named => done.slot _ 1 (.word (s.rAddr 4)) (named ▸ rfl) rfl,
      fun named => done.slot _ 2 (.word (s.rAddr 2)) (named ▸ rfl) rfl,
      fun named => done.slot _ 3 (.word (s.rAddr 0)) (named ▸ rfl) (Nat.add_assoc _ _ _).symm⟩
  | pr x1 x2 dp usp =>
    exact ⟨fun named => done.slot _ 0 (.word (s.prAddr .usp)) (named ▸ rfl) rfl,
      fun named => done.slot _ 1 (.word (s.prAddr .dp)) (named ▸ rfl) rfl,
      fun named => done.slot _ 2 (.word (s.prAddr .x2)) (named ▸ rfl) rfl,
      fun named => done.slot _ 3 (.word (s.prAddr .x1)) (named ▸ rfl) (Nat.add_assoc _ _ _).symm⟩
  | cr a lrb psw =>
    exact ⟨fun named => done.slot _ 0 .a (named ▸ rfl) rfl, fun named => done.slot _ 1 .lrb (named ▸ rfl) rfl,
      fun named => done.slot _ 2 .psw (named ▸ rfl) rfl⟩

/-- Settles O23: each named register is loaded from its place in the pop order, the others are no register of the list. -/
theorem popsResult : Obligations.PopsResult := by
  intro l s present above fits plain
  obtain ⟨u, ends, done⟩ := exec_pops_popped (l := l) present above fits fun k hk => plain (k + 1) (Nat.succ_pos k) hk
  have ssp : u.ssp = s.ssp + BitVec.ofNat 16 (2 * RegList.count l) := by
    rw [done.ssp, List.length_reverse, length_listed_stackRegs]
  refine ⟨u, ends, ssp, by rw [done.state], by rw [done.state], ?_⟩
  cases l with
  | er e0 e1 e2 e3 =>
    have lrb : u.lrb = s.lrb := done.lrb (not_mem_reverse_listed (by simp [stackRegs]))
    have here (n : Nat) : u.rAddr n = s.rAddr n := by rw [State.rAddr, lrb]; rfl
    have reads (n : ER) : erRead u n = (StackReg.word (s.rAddr (2 * n.num))).get u := by rw [← here]; rfl
    exact ⟨fun named => (reads .er0).trans (done.slot 0 (.word (s.rAddr 0)) (named ▸ rfl) rfl),
      fun named => (reads .er1).trans (done.slot 1 (.word (s.rAddr 2)) (named ▸ rfl) rfl),
      fun named => (reads .er2).trans (done.slot 2 (.word (s.rAddr 4)) (named ▸ rfl) (one_add_two _ _)),
      fun named => (reads .er3).trans (done.slot 3 (.word (s.rAddr 6)) (named ▸ rfl) (one_add_three _ _ _)),
      done.a (not_mem_reverse_listed (by simp [stackRegs])), done.psw (not_mem_reverse_listed (by simp [stackRegs])),
      done.keptRest lrb, done.sameCells (flatMap_listed_four _ _ _ _ _)⟩
  | pr x1 x2 dp usp =>
    have psw : u.psw = s.psw := done.psw (not_mem_reverse_listed (by simp [stackRegs]))
    have reads (n : PR) : prRead u n = (StackReg.word (s.prAddr n)).get u := by rw [prRead, State.prAddr, psw]; rfl
    exact ⟨fun named => (reads .x1).trans (done.slot 0 (.word (s.prAddr .x1)) (named ▸ rfl) rfl),
      fun named => (reads .x2).trans (done.slot 1 (.word (s.prAddr .x2)) (named ▸ rfl) rfl),
      fun named => (reads .dp).trans (done.slot 2 (.word (s.prAddr .dp)) (named ▸ rfl) (one_add_two _ _)),
      fun named => (reads .usp).trans (done.slot 3 (.word (s.prAddr .usp)) (named ▸ rfl) (one_add_three _ _ _)),
      done.a (not_mem_reverse_listed (by simp [stackRegs])), psw,
      done.keptRest (done.lrb (not_mem_reverse_listed (by simp [stackRegs]))),
      done.sameCells (flatMap_listed_four _ _ _ _ _)⟩
  | cr a lrb psw =>
    refine ⟨?psw, ?lrb, ?a, by rw [done.state], by rw [done.state], by rw [done.state], by rw [done.state],
      by rw [done.state], by rw [done.state], by rw [done.state],
      done.data fun off => not_mem_reverse_listed (by simp [stackRegs]), by rw [done.state], by rw [done.state]⟩
    case psw =>
      split
      · next named => exact (done.slot 0 .psw (named ▸ rfl) rfl).symm
      · next unnamed => exact done.psw (not_mem_reverse_listed (by simpa [stackRegs] using unnamed))
    case lrb =>
      split
      · next named => exact (done.slot 1 .lrb (named ▸ rfl) rfl).symm
      · next unnamed => exact done.lrb (not_mem_reverse_listed (by simpa [stackRegs] using unnamed))
    case a =>
      split
      · next named => exact (done.slot 2 .a (named ▸ rfl) (one_add_two _ _)).symm
      · next unnamed => exact done.a (not_mem_reverse_listed (by simpa [stackRegs] using unnamed))

/-- Settles O22: PUSHS leaves above SSP the words POPS reads, in its order. -/
theorem popsUndoesPushs : Obligations.PopsUndoesPushs := by
  intro l s present above plain
  obtain ⟨t, pushes, pushed⟩ := exec_pushs_pushed (l := l) present above plain
  obtain ⟨w, pops, popped⟩ := exec_pops_pushed pushed present above plain (Psw.dd s.psw)
  have areas : ∀ r ∈ listed (stackRegs l s), r.InArea := inArea_of_mem_listed
  have few : (listed (stackRegs l s)).length ≤ 4 := length_listed_stackRegs l s ▸ count_le l
  have room : 0xA00 + 2 * (listed (stackRegs l s)).length ≤ s.ssp.toNat := by omega
  have restored {r : StackReg} (area : r.InArea) : r.get w = r.get s :=
    get_of_pushed_popped areas area room pushed popped
  have lrb : w.lrb = s.lrb := Except.ok.inj (restored (r := .lrb) trivial)
  have ssp : w.ssp = s.ssp := by
    rw [popped.ssp, List.length_reverse, pushed.ssp_add _ le_rfl, Nat.sub_self, sub_no_words]
  have kept : Kept s w := by
    refine ⟨⟨lrb, ?_, ?_, ?_, ?_, ?_, ?_, ?_, ?_, ?_⟩, ssp, ?_⟩ <;>
    · rw [popped.state, pushed.state]
      rfl
  exact ⟨_, w, pushes, pops, ssp, Except.ok.inj (restored (r := .a) trivial), lrb,
    Except.ok.inj (restored (r := .psw) trivial), kept, by rw [popped.state, pushed.state]; rfl, fun a beside =>
      cell_of_pushed_popped present areas room pushed popped fun k hk => beside k (Nat.lt_of_lt_of_le hk few)⟩

end Sys2Proof.Machine

/-! # Shifts and rotates -/

namespace Sys2Proof.Machine

/- One thread, as in the tests: elaborating beside them would not fit the memory of the check. -/
set_option Elab.async false

/-! ## The operand, C and the result (R250, R251) -/

section
variable {s t u : State} {l : Loc} {op : ShiftOp} {n : Nat}

theorem shiftW_located {p : WOp} {x : Word} (hl : locW p s = .ok (l, t)) (hx : rdW l t = .ok x)
    (hw : wrW l (shiftRun op (Psw.c t.psw) x n).1 (t.setPsw (Psw.setC t.psw (shiftRun op (Psw.c t.psw) x n).2)) = .ok u) :
    shiftW op p n s = .next (u.setDdFetch (Psw.dd s.psw)) := by
  simp only [shiftW, hl, res_ok_bind, hx, hw, retire_ok]

theorem shiftB_located {p : BOp} {x : Byte} (hl : locB p s = .ok (l, t)) (hx : rdB l t = .ok x)
    (hw : wrB l (shiftRun op (Psw.c t.psw) x n).1 (t.setPsw (Psw.setC t.psw (shiftRun op (Psw.c t.psw) x n).2)) = .ok u) :
    shiftB op p n s = .next (u.setDdFetch (Psw.dd s.psw)) := by
  simp only [shiftB, hl, res_ok_bind, hx, hw, retire_ok]

end

/-- Settles O28: an instruction with a shift's shape runs that shift, which ends with the store of its result. -/
theorem shiftResult : Obligations.ShiftResult := by
  refine fun i s t u l => ⟨fun op p n x hi hl hx hw => ?word, fun op p n x hi hl hx hw => ?byte⟩
  case word => exact (exec_shape s hi).trans (shiftW_located hl hx hw)
  case byte => exact (exec_shape s hi).trans (shiftB_located hl hx hw)

/-! ## The shifts as multiplication and division (R250) -/

section
variable {w : Nat} (c : Bool) (x : BitVec w) (n : Nat)

theorem shiftRun_sll_toNat : (shiftRun .sll c x n).1.toNat = x.toNat * 2 ^ n % 2 ^ w := by
  rw [shiftRun, BitVec.toNat_shiftLeft, Nat.shiftLeft_eq]

/-- The bits SLL loses are those of the high part, which is zero exactly when the product still fits. -/
theorem shiftRun_sll_carry (h : n ≤ w) : (shiftRun .sll c x n).2 = decide (2 ^ w ≤ x.toNat * 2 ^ n) := by
  have split : 2 ^ w = 2 ^ (w - n) * 2 ^ n := by rw [← Nat.pow_add, Nat.sub_add_cancel h]
  have lost : x >>> (w - n) = 0 ↔ x.toNat < 2 ^ (w - n) := by
    rw [← BitVec.toNat_inj, BitVec.toNat_ushiftRight, Nat.shiftRight_eq_div_pow]
    exact Nat.div_eq_zero_iff_lt (Nat.two_pow_pos _)
  rw [shiftRun, Bool.eq_iff_iff, bne_iff_ne, decide_eq_true_iff, Ne, lost, Nat.not_lt, split]
  exact (Nat.mul_le_mul_right_iff (Nat.two_pow_pos n)).symm

theorem shiftRun_srl_toNat : (shiftRun .srl c x n).1.toNat = x.toNat / 2 ^ n := by
  rw [shiftRun, BitVec.toNat_ushiftRight, Nat.shiftRight_eq_div_pow]

theorem shiftRun_sra_toInt : (shiftRun .sra c x n).1.toInt = x.toInt / 2 ^ n := by
  rw [shiftRun, BitVec.toInt_sshiftRight, Int.shiftRight_eq_div_pow, Nat.cast_pow, Nat.cast_ofNat]

theorem getLsbD_eq_decide_div : x.getLsbD n = decide (x.toNat / 2 ^ n % 2 = 1) :=
  Nat.testBit_eq_decide_div_mod_eq

end

/-! ## Turning a number

A number x * b + y with y below b turns into a * y + x: its high part comes in at the low end. Of the numbers below
a * b this is the left rotate by n bits for a = 2^n, and the right rotate by n bits for b = 2^n. -/

/-- The number N, below a * b, with its low part modulo b moved above its high part. -/
def turn (a b N : Nat) : Nat := a * (N % b) + N / b

theorem turn_mul_add {a b x y : Nat} (h : y < b) : turn a b (x * b + y) = a * y + x := by
  have pos : 0 < b := Nat.zero_lt_of_lt h
  rw [turn, Nat.mul_comm x, Nat.mul_add_mod, Nat.mod_eq_of_lt h, Nat.mul_add_div pos, Nat.div_eq_of_lt h, Nat.add_zero]

theorem turn_one_left {b N : Nat} (h : N < b) : turn 1 b N = N := by
  rw [turn, Nat.mod_eq_of_lt h, Nat.div_eq_of_lt h, Nat.one_mul, Nat.add_zero]

theorem turn_one_right (a N : Nat) : turn a 1 N = N := by
  rw [turn, Nat.mod_one, Nat.div_one, Nat.mul_zero, Nat.zero_add]

/-- Multiplying by a and adding what overflows a * b is turning. -/
theorem mul_mod_add_mul_div {a b N : Nat} (h : 0 < a) : N * a % (a * b) + N * a / (a * b) = turn a b N := by
  rw [Nat.mul_comm N, Nat.mul_mod_mul_left, Nat.mul_div_mul_left _ _ h, turn]

/-- A number below a product of three is written with one digit below each factor. -/
theorem exists_digits {a b c N : Nat} (h : N < a * b * c) :
    ∃ x < a, ∃ u < b, ∃ v < c, N = (x * b + u) * c + v := by
  have hc : 0 < c := Nat.pos_of_mul_pos_left (Nat.zero_lt_of_lt h)
  have high : N / c < a * b := (Nat.div_lt_iff_lt_mul hc).mpr h
  have hb : 0 < b := Nat.pos_of_mul_pos_left (Nat.zero_lt_of_lt high)
  refine ⟨N / c / b, (Nat.div_lt_iff_lt_mul hb).mpr high, N / c % b, Nat.mod_lt _ hb, N % c, Nat.mod_lt _ hc, ?_⟩
  rw [Nat.div_add_mod', Nat.div_add_mod']

/-- To turn the highest digit out and then the one below it is to turn both out at once. -/
theorem turn_turn_left {a b c N : Nat} (h : N < c * a * b) : turn a (b * c) (turn c (a * b) N) = turn (c * a) b N := by
  obtain ⟨x, hx, u, hu, v, hv, rfl⟩ := exists_digits h
  have low : b * u + v < a * b := Nat.mul_add_lt_mul_of_lt_of_lt hu hv
  have turned : c * v + x < b * c := Nat.mul_add_lt_mul_of_lt_of_lt hv hx
  calc turn a (b * c) (turn c (a * b) ((x * a + u) * b + v))
      = turn a (b * c) (turn c (a * b) (x * (a * b) + (b * u + v))) := by congr 2; ring
    _ = turn a (b * c) (u * (b * c) + (c * v + x)) := by rw [turn_mul_add low]; congr 1; ring
    _ = c * a * v + (x * a + u) := by rw [turn_mul_add turned]; ring
    _ = turn (c * a) b ((x * a + u) * b + v) := (turn_mul_add hv).symm

/-- To turn the lowest digit in and then the one above it is to turn both in at once. -/
theorem turn_turn_right {a b c N : Nat} (h : N < b * c * a) : turn (a * b) c (turn (b * c) a N) = turn b (c * a) N := by
  obtain ⟨x, hx, u, hu, v, hv, rfl⟩ := exists_digits h
  have low : a * u + v < c * a := Nat.mul_add_lt_mul_of_lt_of_lt hu hv
  calc turn (a * b) c (turn (b * c) a ((x * c + u) * a + v))
      = turn (a * b) c ((b * v + x) * c + u) := by rw [turn_mul_add hv]; congr 1; ring
    _ = b * (a * u + v) + x := by rw [turn_mul_add hu]; ring
    _ = turn b (c * a) (x * (c * a) + (a * u + v)) := (turn_mul_add low).symm
    _ = turn b (c * a) ((x * c + u) * a + v) := by congr 1; ring

/-! ## The rotates as turning C and the operand (R250) -/

section
variable {w : Nat}

/-- C and the operand of a rotate as one number of w + 1 bits, C the highest. -/
def rotNat (xc : BitVec w × Bool) : Nat := xc.2.toNat * 2 ^ w + xc.1.toNat

theorem rotNat_lt (xc : BitVec w × Bool) : rotNat xc < 2 ^ (w + 1) := by
  rw [rotNat, Nat.pow_succ', Nat.mul_comm xc.2.toNat]
  exact Nat.mul_add_lt_mul_of_lt_of_lt xc.2.toNat_lt xc.1.isLt

/-- Shifting a bit in at the low end moves the operand up and loses its highest bit. -/
theorem rolStep_fst_toNat (x : BitVec w) (c : Bool) :
    (rolStep (x, c)).1.toNat = (2 * x.toNat + c.toNat) % 2 ^ w := by
  have same : (rolStep (x, c)).1 = x.shiftConcat c := by
    rw [rolStep]
    ext i hi
    cases i <;> cases c <;> simp [BitVec.getElem_shiftConcat]
  rw [same, BitVec.toNat_shiftConcat, Nat.shiftLeft_eq, Nat.pow_one, Nat.mul_comm]

/-- One step left: the old C comes in at bit 0, the highest bit is the new C. -/
theorem rotNat_rolStep (hw : 0 < w) (xc : BitVec w × Bool) : rotNat (rolStep xc) = turn 2 (2 ^ w) (rotNat xc) := by
  obtain ⟨x, c⟩ := xc
  have out : x.msb.toNat = (2 * x.toNat + c.toNat) / 2 ^ w := by
    have double : 2 ^ (w - 1) * 2 = 2 ^ w := Nat.two_pow_pred_mul_two hw
    have operand := x.isLt
    have carry := c.toNat_le
    rw [BitVec.msb_eq_decide]
    by_cases high : 2 ^ (w - 1) ≤ x.toNat
    · rw [decide_eq_true high]
      exact (Nat.div_eq_of_lt_le (by rw [Bool.toNat_true]; omega) (by rw [Bool.toNat_true]; omega)).symm
    · rw [decide_eq_false high]
      exact (Nat.div_eq_of_lt (by omega)).symm
  calc rotNat (rolStep (x, c))
      = x.msb.toNat * 2 ^ w + (2 * x.toNat + c.toNat) % 2 ^ w := by rw [rotNat, rolStep_fst_toNat, rolStep]
    _ = 2 * x.toNat + c.toNat := by rw [out, Nat.div_add_mod']
    _ = turn 2 (2 ^ w) (rotNat (x, c)) := (turn_mul_add x.isLt).symm

/-- A bit written above the number adds its place. -/
theorem toNat_putBit_above {x : BitVec w} {i : Nat} (b : Bool) (hi : i < w) (h : x.toNat < 2 ^ i) :
    (putBit x i b).toNat = b.toNat * 2 ^ i + x.toNat := by
  cases b with
  | false =>
    have clear : x.getLsbD i = false := Nat.testBit_lt_two_pow h
    have same : putBit x i false = x := BitVec.eq_of_getLsbD_eq fun j _ => by
      rw [getLsbD_putBit x i j false hi]
      split
      · next here => exact here ▸ clear.symm
      · rfl
    rw [same, Bool.toNat_false, Nat.zero_mul, Nat.zero_add]
  | true =>
    have place : (BitVec.twoPow w i).toNat = 2 ^ i := by
      rw [BitVec.toNat_twoPow, Nat.mod_eq_of_lt (Nat.pow_lt_pow_right Nat.one_lt_two hi)]
    calc (x ||| BitVec.twoPow w i).toNat
        = 2 ^ i * 1 ||| x.toNat := by rw [BitVec.toNat_or, place, Nat.or_comm, Nat.mul_one]
      _ = true.toNat * 2 ^ i + x.toNat := by rw [← Nat.two_pow_add_eq_or_of_lt h, Nat.mul_comm, Bool.toNat_true]

/-- One step right: the old C comes in at the highest bit, bit 0 is the new C. -/
theorem rotNat_rorStep (hw : 0 < w) (xc : BitVec w × Bool) : rotNat (rorStep xc) = turn (2 ^ w) 2 (rotNat xc) := by
  obtain ⟨x, c⟩ := xc
  have out : (x.getLsbD 0).toNat = x.toNat % 2 := by
    rw [getLsbD_eq_decide_div, Nat.pow_zero, Nat.div_one]
    rcases Nat.mod_two_eq_zero_or_one x.toNat with bit | bit <;> rw [bit] <;> rfl
  have half : (x >>> 1).toNat = x.toNat / 2 := by rw [BitVec.toNat_ushiftRight, Nat.shiftRight_eq_div_pow, Nat.pow_one]
  have double : 2 ^ (w - 1) * 2 = 2 ^ w := Nat.two_pow_pred_mul_two hw
  have below : (x >>> 1).toNat < 2 ^ (w - 1) := by
    have := x.isLt
    omega
  have number : rotNat (x, c) = (c.toNat * 2 ^ (w - 1) + x.toNat / 2) * 2 + x.toNat % 2 := by
    rw [rotNat, ← double]
    have := Nat.div_add_mod' x.toNat 2
    linarith
  rw [number, turn_mul_add (Nat.mod_lt _ Nat.two_pos), rotNat, rorStep, out, toNat_putBit_above c (by omega) below, half,
    Nat.mul_comm]

theorem rotNat_rotSteps_rolStep (hw : 0 < w) {n m : Nat} (h : n + m = w + 1) (xc : BitVec w × Bool) :
    rotNat (rotSteps rolStep n xc) = turn (2 ^ n) (2 ^ m) (rotNat xc) := by
  induction n generalizing m xc with
  | zero =>
    obtain rfl : m = w + 1 := by omega
    exact (turn_one_left (rotNat_lt xc)).symm
  | succ n ih =>
    have width : w = n + m := by omega
    have bound : rotNat xc < 2 * 2 ^ n * 2 ^ m := by
      rw [Nat.mul_assoc, ← Nat.pow_add, ← width, ← Nat.pow_succ']
      exact rotNat_lt xc
    calc rotNat (rotSteps rolStep n (rolStep xc))
        = turn (2 ^ n) (2 ^ (m + 1)) (rotNat (rolStep xc)) := ih (by omega) _
      _ = turn (2 ^ n) (2 ^ m * 2) (turn 2 (2 ^ n * 2 ^ m) (rotNat xc)) := by
        rw [rotNat_rolStep hw, ← Nat.pow_add, ← width, Nat.pow_succ]
      _ = turn (2 ^ (n + 1)) (2 ^ m) (rotNat xc) := by rw [turn_turn_left bound, ← Nat.pow_succ']

theorem rotNat_rotSteps_rorStep (hw : 0 < w) {n m : Nat} (h : m + n = w + 1) (xc : BitVec w × Bool) :
    rotNat (rotSteps rorStep n xc) = turn (2 ^ m) (2 ^ n) (rotNat xc) := by
  induction n generalizing m xc with
  | zero => exact (turn_one_right _ _).symm
  | succ n ih =>
    have width : w = m + n := by omega
    have bound : rotNat xc < 2 ^ m * 2 ^ n * 2 := by
      rw [← Nat.pow_add, ← width, ← Nat.pow_succ]
      exact rotNat_lt xc
    calc rotNat (rotSteps rorStep n (rorStep xc))
        = turn (2 ^ (m + 1)) (2 ^ n) (rotNat (rorStep xc)) := ih (by omega) _
      _ = turn (2 * 2 ^ m) (2 ^ n) (turn (2 ^ m * 2 ^ n) 2 (rotNat xc)) := by
        rw [rotNat_rorStep hw, ← Nat.pow_add, ← width, Nat.pow_succ']
      _ = turn (2 ^ m) (2 ^ (n + 1)) (rotNat xc) := by rw [turn_turn_right bound, ← Nat.pow_succ]

end

/-- Settles O29: the shifts multiply and divide, and n steps of a rotate turn the number C and operand make. -/
theorem shiftMeaning : Obligations.ShiftMeaning := by
  intro w n c x width low high
  have inside : n ≤ w := by omega
  have pos : 0 < w := by omega
  refine ⟨⟨shiftRun_sll_toNat c x n, shiftRun_sll_carry c x n inside⟩,
    ⟨shiftRun_srl_toNat c x n, getLsbD_eq_decide_div x (n - 1)⟩,
    ⟨shiftRun_sra_toInt c x n, getLsbD_eq_decide_div x (n - 1)⟩, ?rol, ?ror⟩
  case rol =>
    have split : 2 ^ (w + 1) = 2 ^ n * 2 ^ (w + 1 - n) := by rw [← Nat.pow_add]; congr 1; omega
    calc rotNat (rotSteps rolStep n (x, c))
        = turn (2 ^ n) (2 ^ (w + 1 - n)) (rotNat (x, c)) := rotNat_rotSteps_rolStep pos (by omega) _
      _ = rotNat (x, c) * 2 ^ n % 2 ^ (w + 1) + rotNat (x, c) * 2 ^ n / 2 ^ (w + 1) := by
        rw [split, mul_mod_add_mul_div (Nat.two_pow_pos n)]
  case ror =>
    calc rotNat (rotSteps rorStep n (x, c))
        = turn (2 ^ (w + 1 - n)) (2 ^ n) (rotNat (x, c)) := rotNat_rotSteps_rorStep pos (by omega) _
      _ = rotNat (x, c) / 2 ^ n + rotNat (x, c) % 2 ^ n * 2 ^ (w + 1 - n) := by
        rw [turn, Nat.add_comm, Nat.mul_comm (2 ^ _)]

end Sys2Proof.Machine

/-! # Increment and decrement -/

namespace Sys2Proof.Machine

/- One thread, as in the tests: elaborating beside them would not fit the memory of the check. -/
set_option Elab.async false

/-! ## The result and the flags (R280) -/

section
variable {w : Nat} (p : Word) (x y : BitVec w)

theorem addFlags_false_res : (addFlags x y false).res = x + y := by
  simp [addFlags, BitVec.ofNat_add]

theorem subFlags_false_res : (subFlags x y false).res = x - y := by
  simp [subFlags, Int.sub_eq_add_neg, BitVec.ofInt_add, BitVec.ofInt_neg, BitVec.sub_eq_add_neg]

theorem incDecRun_false : incDecRun false p x = (x + 1, Psw.putIncDec p (addFlags x 1 false)) :=
  congrArg (·, Psw.putIncDec p (addFlags x 1 false)) (addFlags_false_res x 1)

theorem incDecRun_true : incDecRun true p x = (x - 1, Psw.putIncDec p (subFlags x 1 false)) :=
  congrArg (·, Psw.putIncDec p (subFlags x 1 false)) (subFlags_false_res x 1)

end

/-! ## The operand, the flags and the store (R281 to R292) -/

section
variable {s t u : State} {l : Loc} {dec : Bool} {q : Word}

/-- The flags are written where the operand was located, before the result (D11). -/
theorem incDecW_located {p : WOp} {x r : Word} (hl : locW p s = .ok (l, t)) (hx : rdW l t = .ok x)
    (hr : incDecRun dec t.psw x = (r, q)) (hw : wrW l r (t.setPsw q) = .ok u) :
    incDecW dec p s = .next (u.setDdFetch (Psw.dd s.psw)) := by
  simp only [incDecW, hl, res_ok_bind, hx, hr, hw, retire_ok]

/-- The flags are written where the operand was located, before the result (D11). -/
theorem incDecB_located {p : BOp} {x r : Byte} (hl : locB p s = .ok (l, t)) (hx : rdB l t = .ok x)
    (hr : incDecRun dec t.psw x = (r, q)) (hw : wrB l r (t.setPsw q) = .ok u) :
    incDecB dec p s = .next (u.setDdFetch (Psw.dd s.psw)) := by
  simp only [incDecB, hl, res_ok_bind, hx, hr, hw, retire_ok]

end

/-- Settles O30: an instruction of the family runs its shape's operation, whose result is the operand plus or minus 1. -/
theorem incDecResult : Obligations.IncDecResult := by
  refine fun i s t u l => ⟨?incWord, ?decWord, ?incByte, ?decByte⟩
  case incWord =>
    rintro p x _ hi hl hx rfl hw
    exact (exec_shape s hi).trans (incDecW_located hl hx (incDecRun_false _ x) hw)
  case decWord =>
    rintro p x _ hi hl hx rfl hw
    exact (exec_shape s hi).trans (incDecW_located hl hx (incDecRun_true _ x) hw)
  case incByte =>
    rintro p x _ hi hl hx rfl hw
    exact (exec_shape s hi).trans (incDecB_located hl hx (incDecRun_false _ x) hw)
  case decByte =>
    rintro p x _ hi hl hx rfl hw
    exact (exec_shape s hi).trans (incDecB_located hl hx (incDecRun_true _ x) hw)

end Sys2Proof.Machine

/-! # Arithmetic: the eight operations, NEG, multiplication and division -/

namespace Sys2Proof.Machine

/- One thread, as in the tests: elaborating beside them would not fit the memory of the check. -/
set_option Elab.async false

/-! ## The eight operations (R295, R340) -/

theorem AluOp.writes_of_ne {op : AluOp} (h : op ≠ .cmp) : op.writes = true := by
  cases op with
  | cmp => exact absurd rfl h
  | add | adc | sub | sbc | and | or | xor => rfl

section
variable {s t t' u : State} {l : Loc} {op : AluOp}

/-- A comparison leaves A (R320). -/
theorem aluAccW_eq (s : State) (op : AluOp) (y : Word) : s.aluAccW op y =
    (s.setPsw (aluRun op s.psw s.a y).2).setA (if op = .cmp then s.a else (aluRun op s.psw s.a y).1) := by
  by_cases h : op = .cmp
  · subst h; rfl
  · simp only [State.aluAccW, AluOp.writes_of_ne h, if_neg h, if_true]

/-- A byte comparison leaves A, any other byte operation leaves AH. -/
theorem aluAccB_eq (s : State) (op : AluOp) (y : Byte) : s.aluAccB op y =
    (s.setPsw (aluRun op s.psw (loByte s.a) y).2).setA
      (if op = .cmp then s.a else mkWord (hiByte s.a) (aluRun op s.psw (loByte s.a) y).1) := by
  by_cases h : op = .cmp
  · subst h; rfl
  · simp only [State.aluAccB, AluOp.writes_of_ne h, if_neg h, if_true, setLo]

theorem aluAW_located {p : WOp} {y : Word} (hl : locW p s = .ok (l, t)) (hy : rdW l t = .ok y) :
    aluAW op p s = .next ((t.aluAccW op y).setDdFetch (Psw.dd s.psw)) := by
  simp only [aluAW, hl, res_ok_bind, hy, res_pure, retire_ok]

theorem aluAB_located {p : BOp} {y : Byte} (hl : locB p s = .ok (l, t)) (hy : rdB l t = .ok y) :
    aluAB op p s = .next ((t.aluAccB op y).setDdFetch (Psw.dd s.psw)) := by
  simp only [aluAB, hl, res_ok_bind, hy, res_pure, retire_ok]

/-- The class (c) forms run where DD_FETCH selects a word, the others always (R135). -/
theorem run_aluAW {c : Bool} {p : WOp} (dd : c = true → s.ddFetch = true) :
    (Shape.aluAW c op p).run s = aluAW op p s := by
  cases c with
  | false => rfl
  | true => exact classW_match _ (dd rfl)

/-- The class (c) forms run where DD_FETCH selects a byte, the others always (R135). -/
theorem run_aluAB {c : Bool} {p : BOp} (dd : c = true → s.ddFetch = false) :
    (Shape.aluAB c op p).run s = aluAB op p s := by
  cases c with
  | false => rfl
  | true => exact classB_match _ (dd rfl)

/-- What follows the flags of an operation: a comparison stores nothing (R322), any other operation its result. -/
theorem store_unless_cmp {store : Res State} (h : if op = .cmp then u = t else store = .ok u) :
    (if op.writes then store else .ok t) = .ok u := by
  by_cases hop : op = .cmp
  · subst hop
    rw [if_pos rfl] at h
    rw [h]; rfl
  · rw [if_neg hop] at h
    rw [AluOp.writes_of_ne hop, if_pos rfl, h]

theorem aluMW_located {p : WOp} {q : Src 16} {m : Loc ⊕ Word} {x y : Word} (hl : locW p s = .ok (l, t))
    (hm : srcLocW q t = .ok (m, t')) (hx : rdW l t' = .ok x) (hy : srcRdW m t' = .ok y)
    (hu : if op = .cmp then u = t'.setPsw (aluRun op t'.psw x y).2
      else wrW l (aluRun op t'.psw x y).1 (t'.setPsw (aluRun op t'.psw x y).2) = .ok u) :
    aluMW op p q s = .next (u.setDdFetch (Psw.dd s.psw)) := by
  simp only [aluMW, hl, res_ok_bind, hm, hx, hy, store_unless_cmp hu, retire_ok]

theorem aluMB_located {p : BOp} {q : Src 8} {m : Loc ⊕ Byte} {x y : Byte} (hl : locB p s = .ok (l, t))
    (hm : srcLocB q t = .ok (m, t')) (hx : rdB l t' = .ok x) (hy : srcRdB m t' = .ok y)
    (hu : if op = .cmp then u = t'.setPsw (aluRun op t'.psw x y).2
      else wrB l (aluRun op t'.psw x y).1 (t'.setPsw (aluRun op t'.psw x y).2) = .ok u) :
    aluMB op p q s = .next (u.setDdFetch (Psw.dd s.psw)) := by
  simp only [aluMB, hl, res_ok_bind, hm, hx, hy, store_unless_cmp hu, retire_ok]

end

/-- Settles O32: an instruction of the family runs its shape's operation, on A with the result put there, on a located operand
with the store of the result last. -/
theorem aluResult : Obligations.AluResult := by
  refine fun i s t t' u l op => ⟨fun c p y hi dd hl hy => ?accWord, fun c p y hi dd hl hy => ?accByte, fun y hi => ?immWord,
    fun y hi => ?immByte, fun p q m x y hi hl hm hx hy hu => ?word, fun p q m x y hi hl hm hx hy hu => ?byte⟩
  case accWord => rw [exec_shape s hi, run_aluAW dd, aluAW_located hl hy, aluAccW_eq]
  case accByte => rw [exec_shape s hi, run_aluAB dd, aluAB_located hl hy, aluAccB_eq]
  case immWord => rw [exec_shape s hi, ← aluAccW_eq]; rfl
  case immByte => rw [exec_shape s hi, ← aluAccB_eq]; rfl
  case word => exact (exec_shape s hi).trans (aluMW_located hl hm hx hy hu)
  case byte => exact (exec_shape s hi).trans (aluMB_located hl hm hx hy hu)

/-! ## The two's complement (R328, R329) -/

/-- The signed negation of a word leaves its range for the least word alone. -/
theorem neg_toInt_overflows_iff {w : Nat} (hw : 0 < w) (x : BitVec w) :
    (-x.toInt < -(2 ^ (w - 1)) ∨ 2 ^ (w - 1) ≤ -x.toInt) ↔ x = BitVec.intMin w := by
  have least := BitVec.le_toInt x
  have most := BitVec.toInt_lt (x := x)
  rw [← BitVec.toInt_inj, BitVec.toInt_intMin_of_pos hw]
  omega

/-- What subtracting from 0 answers (D27). -/
theorem subFlags_zero {w : Nat} (hw : 0 < w) (x : BitVec w) :
    (subFlags 0 x false).res = -x ∧ (subFlags 0 x false).c = decide (x ≠ 0) ∧ (subFlags 0 x false).z = decide (x = 0) ∧
      (subFlags 0 x false).s = (-x).getLsbD (w - 1) ∧ (subFlags 0 x false).ov = decide (x = BitVec.intMin w) ∧
      (subFlags 0 x false).hc = decide (x.toNat % 16 ≠ 0) := by
  have res : (subFlags 0 x false).res = -x := (subFlags_false_res 0 x).trans (BitVec.zero_sub x)
  have m := subFlags_means hw 0 x false
  have nonzero : x ≠ 0 ↔ 0 < x.toNat := by
    rw [Nat.pos_iff_ne_zero, Ne, Ne, ← BitVec.toNat_inj]; rfl
  refine ⟨res, m.c.trans (decide_eq_decide.mpr ?c), ?z, ?s, m.ov.trans (decide_eq_decide.mpr ?ov),
    m.hc.trans (decide_eq_decide.mpr ?hc)⟩
  case c => rw [nonzero]; simp
  case z =>
    have flag : (subFlags 0 x false).z = ((subFlags 0 x false).res == 0) := rfl
    rw [flag, res, Bool.eq_iff_iff, beq_iff_eq, decide_eq_true_iff]
    exact BitVec.neg_eq_zero_iff
  case s =>
    have flag : (subFlags 0 x false).s = (subFlags 0 x false).res.msb := rfl
    rw [flag, res, BitVec.msb_eq_getLsbD_last]
  case ov => rw [← neg_toInt_overflows_iff hw]; simp
  case hc => simp [Nat.pos_iff_ne_zero]

theorem exec_negA (s : State) : exec .negA s = .next
    (((s.setA (subFlags 0 s.a false).res).setPsw (Psw.putArith s.psw (subFlags 0 s.a false))).setDdFetch (Psw.dd s.psw)) :=
  rfl

theorem exec_negbA (s : State) : exec .negbA s = .next
    (((s.setA (mkWord (hiByte s.a) (subFlags 0 (loByte s.a) false).res)).setPsw
      (Psw.putArith s.psw (subFlags 0 (loByte s.a) false))).setDdFetch (Psw.dd s.psw)) :=
  rfl

/-- Settles O33, from what subtracting from 0 answers at either width. -/
theorem negateResult : Obligations.NegateResult := by
  refine fun s => ⟨⟨Psw.putArith s.psw (subFlags 0 s.a false), ?word⟩,
    ⟨Psw.putArith s.psw (subFlags 0 (loByte s.a) false), ?byte⟩⟩
  case word =>
    obtain ⟨hc, hz, hs, hov, hhc⟩ := putArith_fields s.psw (subFlags 0 s.a false)
    obtain ⟨res, c, z, sign, ov, hc'⟩ := subFlags_zero (by decide) s.a
    exact ⟨by rw [exec_negA, res], hc.trans c, hz.trans z, hs.trans sign, hov.trans ov, hhc.trans hc', putArith_sameBits _ _⟩
  case byte =>
    obtain ⟨hc, hz, hs, hov, hhc⟩ := putArith_fields s.psw (subFlags 0 (loByte s.a) false)
    obtain ⟨res, c, z, sign, ov, hc'⟩ := subFlags_zero (by decide) (loByte s.a)
    exact ⟨by rw [exec_negbA, res], hc.trans c, hz.trans z, hs.trans sign, hov.trans ov, hhc.trans hc',
      putArith_sameBits _ _⟩

/-! ## What multiplication and division leave -/

/-- From `s` to `u` PSW changes in the bits `ks` alone, data memory in the bytes `bs` alone, and no other register but A. -/
structure Computed (ks bs : List Nat) (s u : State) : Prop where
  psw : SameBits ks s.psw u.psw
  kept : Kept s u
  pc : u.pc = s.pc
  cells : SameCells bs s u

/-- `s` with a result in A, its flags in PSW, and data memory `d`, where the rest of the result stands. -/
def State.withResults (s : State) (a q : Word) (d : List Host.Cell) : State := ((s.setA a).setPsw q).setData d

section
variable {s t u : State} {ks bs : List Nat} {a q : Word} {d : List Host.Cell}

@[simp] theorem State.withResults_a (s : State) (a q : Word) (d : List Host.Cell) : (s.withResults a q d).a = a := rfl

@[simp] theorem State.withResults_psw (s : State) (a q : Word) (d : List Host.Cell) : (s.withResults a q d).psw = q := rfl

theorem computed_withResults (flags : SameBits ks t.psw q) (cells : SameCells bs t (t.setData d)) :
    Computed ks bs t (t.withResults a q d) :=
  ⟨flags, ⟨⟨rfl, rfl, rfl, rfl, rfl, rfl, rfl, rfl, rfl, rfl⟩, rfl, rfl⟩, rfl, cells⟩

/-- What was computed where the operand was located, seen from the state before that. -/
theorem Computed.retired (h : Computed ks bs (s.setData d) u) (b : Bool) : SameBits ks s.psw (u.setDdFetch b).psw ∧
    Kept s (u.setDdFetch b) ∧ (u.setDdFetch b).pc = s.pc ∧ SameCells bs (s.setData d) (u.setDdFetch b) :=
  ⟨h.psw, { h.kept with }, h.pc, h.cells⟩

theorem Computed.draw (h : Computed ks bs t u) (n : Nat) : Computed ks bs t (u.draw n) :=
  ⟨h.psw, { h.kept with }, h.pc, h.cells⟩

/-! ### Results in the local registers -/

theorem inRegisters_er (t : State) (n : ER) : InRegisters (t.rAddr (2 * n.num)) :=
  inRegisters_rAddr t (by have := er_num_lt n; omega)

theorem erRead_ok (present : RegistersPresent t) (n : ER) : ∃ v, erRead t n = .ok v :=
  registerWord_reads present (inRegisters_er t n)

theorem erWrite_computed (present : RegistersPresent t) (a : Word) (flags : SameBits ks t.psw q) (n : ER) (v : Word) :
    ∃ d, erWrite ((t.setA a).setPsw q) n v = .ok (t.withResults a q d) ∧ erRead (t.withResults a q d) n = .ok v ∧
      Computed ks (wordBytes 0 (t.rAddr (2 * n.num))) t (t.withResults a q d) := by
  obtain ⟨u, write, read, data, cells⟩ :=
    registerWord_reads_back (s := (t.setA a).setPsw q) present (inRegisters_er t n) v
  rw [data] at write read cells
  exact ⟨u.data, write, read, computed_withResults flags cells⟩

theorem rWrite_computed (present : RegistersPresent t) (a : Word) (flags : SameBits ks t.psw q) (n : R8) (v : Byte) :
    ∃ d, rWrite ((t.setA a).setPsw q) n v = .ok (t.withResults a q d) ∧ rRead (t.withResults a q d) n = .ok v ∧
      Computed ks [key 0 (t.rAddr n.num)] t (t.withResults a q d) := by
  obtain ⟨u, write, read, data, cells⟩ :=
    registerByte_reads_back (s := (t.setA a).setPsw q) present (inRegisters_rAddr t (r8_num_lt n)) v
  rw [data] at write read cells
  exact ⟨u.data, write, read, computed_withResults flags cells⟩

/-- ER0 and ER1 share no byte. -/
theorem er0_not_mem_er1 {b : Nat} (h : b ∈ wordBytes 0 (t.rAddr (2 * ER.num .er0))) :
    b ∉ wordBytes 0 (t.rAddr (2 * ER.num .er1)) := by
  rw [mem_wordBytes_zero, rAddr_toNat t _ (by decide)] at *
  simp only [ER.num] at *
  omega

/-- ER0 is written, then ER1, and both hold what was written. -/
theorem erWrite_both_computed (present : RegistersPresent t) (a : Word) (flags : SameBits ks t.psw q) (v w : Word) :
    ∃ d d', erWrite ((t.setA a).setPsw q) .er0 v = .ok (t.withResults a q d) ∧
      erWrite (t.withResults a q d) .er1 w = .ok (t.withResults a q d') ∧
      erRead (t.withResults a q d') .er0 = .ok v ∧ erRead (t.withResults a q d') .er1 = .ok w ∧
      Computed ks (wordBytes 0 (t.rAddr 0) ++ wordBytes 0 (t.rAddr 2)) t (t.withResults a q d') := by
  obtain ⟨d, write0, read0, computed0⟩ := erWrite_computed present a flags .er0 v
  obtain ⟨d', write1, read1, computed1⟩ := erWrite_computed (t := t.setData d) present a flags .er1 w
  have kept0 : erRead (t.withResults a q d') .er0 = erRead (t.withResults a q d) .er0 :=
    memReadWord_congr (inRegisters_er t .er0).not_sfr rfl fun b hb => computed1.cells b (er0_not_mem_er1 (t := t) hb)
  refine ⟨d, d', write0, write1, kept0.trans read0, read1, computed_withResults flags fun b hb => ?_⟩
  rw [List.mem_append, not_or] at hb
  exact (computed1.cells b hb.2).trans (computed0.cells b hb.1)

end

/-! ### Flags and numbers -/

theorem setZ_sameBits (p : Word) (z : Bool) : SameBits [14] p (Psw.setZ p z) :=
  (SameBits.refl _ p).putBit 14 z

theorem setC_setZ_sameBits (p : Word) (c z : Bool) : SameBits [15, 14] p (Psw.setZ (Psw.setC p c) z) :=
  ((SameBits.refl _ p).putBit 15 c).putBit 14 z

theorem setC_setZ_setOv_sameBits (p : Word) (c z v : Bool) :
    SameBits [15, 14, 9] p (Psw.setOv (Psw.setZ (Psw.setC p c) z) v) :=
  (((SameBits.refl _ p).putBit 15 c).putBit 14 z).putBit 9 v

theorem beq_zero_of_toNat {w n : Nat} {r : BitVec w} (h : r.toNat = n) : (r == 0) = decide (n = 0) := by
  subst h
  rw [Bool.eq_iff_iff, beq_iff_eq, decide_eq_true_iff, ← BitVec.toNat_inj]
  rfl

/-- The double word `<A,ER0>` of its two halves. -/
theorem toNat_halves (p : BitVec 32) :
    (p.extractLsb' 16 16).toNat * 0x10000 + (p.extractLsb' 0 16).toNat = p.toNat := by
  have := p.isLt
  simp only [BitVec.extractLsb'_toNat, Nat.shiftRight_eq_div_pow]
  omega

theorem toNat_mul_words (x y : Word) : (x.setWidth 32 * y.setWidth 32 : BitVec 32).toNat = x.toNat * y.toNat := by
  have fits : x.toNat * y.toNat < 2 ^ 16 * 2 ^ 16 := Nat.mul_lt_mul'' x.isLt y.isLt
  rw [BitVec.toNat_mul, BitVec.toNat_setWidth_of_le (by decide), BitVec.toNat_setWidth_of_le (by decide)]
  exact Nat.mod_eq_of_lt fits

theorem toNat_mul_bytes (x y : Byte) : (zext x * zext y).toNat = x.toNat * y.toNat := by
  have fits : x.toNat * y.toNat < 2 ^ 8 * 2 ^ 8 := Nat.mul_lt_mul'' x.isLt y.isLt
  rw [BitVec.toNat_mul, toNat_zext, toNat_zext]
  exact Nat.mod_eq_of_lt fits

/-- A number that fits is the number of its word. -/
theorem exists_ofNat {w n : Nat} (h : n < 2 ^ w) : ∃ x, BitVec.ofNat w n = x ∧ x.toNat = n :=
  ⟨_, rfl, Nat.mod_eq_of_lt h⟩

/-- A remainder fits the width of the divisor. -/
theorem mod_toNat_lt {w : Nat} {d : BitVec w} (n : Nat) (h : d ≠ 0) : n % d.toNat < 2 ^ w := by
  have pos : 0 < d.toNat := Nat.pos_of_ne_zero fun zero => h (BitVec.eq_of_toNat_eq zero)
  exact (Nat.mod_lt n pos).trans d.isLt

/-- A quotient fits where the dividend does. -/
theorem div_lt_two_pow {w n : Nat} (d : Nat) (h : n < 2 ^ w) : n / d < 2 ^ w :=
  (Nat.div_le_self n d).trans_lt h

theorem dividend_lt (hi lo : Word) : hi.toNat * 0x10000 + lo.toNat < 2 ^ 32 := by
  have := hi.isLt
  have := lo.isLt
  omega

/-! ## Multiplication (R330 to R333) -/

theorem mulWord_computed {t : State} (present : RegistersPresent t) (m : Word) : ∃ u lo, t.mulWord m = .ok u ∧
    erRead u .er0 = .ok lo ∧ u.a.toNat * 0x10000 + lo.toNat = t.a.toNat * m.toNat ∧
    Psw.z u.psw = decide (t.a.toNat * m.toNat = 0) ∧ Computed [14] (wordBytes 0 (t.rAddr 0)) t u := by
  have product := toNat_mul_words t.a m
  obtain ⟨d, write, read, computed⟩ := erWrite_computed present _ (setZ_sameBits t.psw _) .er0 _
  exact ⟨_, _, write, read, (toNat_halves _).trans product, (Psw.z_setZ _ _).trans (beq_zero_of_toNat product), computed⟩

theorem mulByte_computed (t : State) (m : Byte) : (t.mulByte m).a.toNat = (loByte t.a).toNat * m.toNat ∧
    Psw.z (t.mulByte m).psw = decide ((t.mulByte m).a = 0) ∧ Computed [14] [] t (t.mulByte m) :=
  ⟨toNat_mul_bytes _ m, Psw.z_setZ _ _, computed_withResults (d := t.data) (setZ_sameBits t.psw _) fun _ _ => rfl⟩

/-! ## Division (R334 to R336) -/

section
variable {t : State} (present : RegistersPresent t)
include present

theorem divWord_computed {d lo : Word} {n : Nat} (hlo : erRead t .er0 = .ok lo) (hd : d ≠ 0)
    (hn : n = t.a.toNat * 0x10000 + lo.toNat) : ∃ u q r, t.divWord d = .ok u ∧ erRead u .er0 = .ok q ∧
      erRead u .er1 = .ok r ∧ u.a.toNat * 0x10000 + q.toNat = n / d.toNat ∧ r.toNat = n % d.toNat ∧
      Psw.c u.psw = false ∧ Psw.z u.psw = decide (n / d.toNat = 0) ∧
      Computed [15, 14] (wordBytes 0 (t.rAddr 0) ++ wordBytes 0 (t.rAddr 2)) t u := by
  obtain ⟨q, hq, quotient⟩ := exists_ofNat (div_lt_two_pow d.toNat (hn ▸ dividend_lt t.a lo))
  obtain ⟨r, hr, remainder⟩ := exists_ofNat (mod_toNat_lt n hd)
  obtain ⟨m, m', write0, write1, read0, read1, computed⟩ := erWrite_both_computed present (q.extractLsb' 16 16)
    (setC_setZ_sameBits t.psw false (q == 0)) (q.extractLsb' 0 16) r
  refine ⟨_, _, r, ?_, read0, read1, (toNat_halves q).trans quotient, remainder, by simp,
    (Psw.z_setZ _ _).trans (beq_zero_of_toNat quotient), computed⟩
  simp only [State.divWord, hlo, res_ok_bind, if_neg hd, ← hn, hq, hr, write0, write1]

theorem divWord_zero_computed : ∃ u, t.divWord 0 = .ok u ∧ Psw.c u.psw = true ∧
    Computed [15, 14] (wordBytes 0 (t.rAddr 0) ++ wordBytes 0 (t.rAddr 2)) t u := by
  obtain ⟨lo, hlo⟩ := erRead_ok present .er0
  obtain ⟨m, m', write0, write1, _, _, computed⟩ := erWrite_both_computed present (Config.freeWord t.draws)
    (setC_setZ_sameBits t.psw true (Config.freeBit t.draws)) (Config.freeWord (t.draws + 1))
    (Config.freeWord (t.draws + 2))
  refine ⟨_, ?_, by simp, computed.draw 3⟩
  simp only [State.divWord, hlo, res_ok_bind, if_true, write0, write1, res_pure]

theorem divByte_computed {d : Byte} (hd : d ≠ 0) : ∃ u r, t.divByte d = .ok u ∧ rRead u .r1 = .ok r ∧
    u.a.toNat = t.a.toNat / d.toNat ∧ r.toNat = t.a.toNat % d.toNat ∧ Psw.c u.psw = false ∧
    Psw.z u.psw = decide (t.a.toNat / d.toNat = 0) ∧ Computed [15, 14] [key 0 (t.rAddr 1)] t u := by
  obtain ⟨q, hq, quotient⟩ := exists_ofNat (div_lt_two_pow d.toNat t.a.isLt)
  obtain ⟨r, hr, remainder⟩ := exists_ofNat (mod_toNat_lt t.a.toNat hd)
  obtain ⟨m, write, read, computed⟩ := rWrite_computed present q (setC_setZ_sameBits t.psw false (q == 0)) .r1 r
  refine ⟨_, r, ?_, read, quotient, remainder, by simp, (Psw.z_setZ _ _).trans (beq_zero_of_toNat quotient), computed⟩
  simp only [State.divByte, if_neg hd, hq, hr, write]

theorem divByte_zero_computed : ∃ u, t.divByte 0 = .ok u ∧ Psw.c u.psw = true ∧
    Computed [15, 14] [key 0 (t.rAddr 1)] t u := by
  obtain ⟨m, write, _, computed⟩ := rWrite_computed present (Config.freeWord t.draws)
    (setC_setZ_sameBits t.psw true (Config.freeBit t.draws)) .r1 (Config.freeByte t.draws)
  refine ⟨_, ?_, by simp, computed.draw 1⟩
  simp only [State.divByte, if_true, write, res_ok_bind, res_pure]

/-- The quotient fits 16 bits. -/
theorem divQuick_computed {d lo : Word} {n : Nat} (hlo : erRead t .er0 = .ok lo) (hd : d ≠ 0)
    (hn : n = t.a.toNat * 0x10000 + lo.toNat) (fits : n / d.toNat ≤ 0xFFFF) : ∃ u r, t.divQuick d = .ok u ∧
      erRead u .er1 = .ok r ∧ u.a.toNat = n / d.toNat ∧ r.toNat = n % d.toNat ∧ Psw.c u.psw = false ∧
      Psw.ov u.psw = false ∧ Psw.z u.psw = decide (n / d.toNat = 0) ∧
      Computed [15, 14, 9] (wordBytes 0 (t.rAddr 2)) t u := by
  obtain ⟨q, hq, quotient⟩ := exists_ofNat (w := 16) (Nat.lt_succ_of_le fits)
  obtain ⟨r, hr, remainder⟩ := exists_ofNat (mod_toNat_lt n hd)
  obtain ⟨m, write, read, computed⟩ :=
    erWrite_computed present q (setC_setZ_setOv_sameBits t.psw false (q == 0) false) .er1 r
  refine ⟨_, r, ?_, read, quotient, remainder, by simp, by simp, by simpa using beq_zero_of_toNat quotient, computed⟩
  simp only [State.divQuick, hlo, res_ok_bind, if_neg hd, ← hn, if_neg (Nat.not_lt.mpr fits), hq, hr, write]

theorem divQuick_zero_computed : ∃ u, t.divQuick 0 = .ok u ∧ Psw.c u.psw = true ∧
    Computed [15, 14, 9] (wordBytes 0 (t.rAddr 2)) t u := by
  obtain ⟨lo, hlo⟩ := erRead_ok present .er0
  obtain ⟨m, write, _, computed⟩ := erWrite_computed present (Config.freeWord t.draws)
    (setC_setZ_setOv_sameBits t.psw true (Config.freeBit t.draws) (Config.freeBit (t.draws + 1))) .er1
    (Config.freeWord (t.draws + 1))
  refine ⟨_, ?_, by simp, computed.draw 2⟩
  simp only [State.divQuick, hlo, res_ok_bind, if_true, write, res_pure]

theorem divQuick_overflow_computed {d lo : Word} (hlo : erRead t .er0 = .ok lo) (hd : d ≠ 0)
    (large : 0xFFFF < (t.a.toNat * 0x10000 + lo.toNat) / d.toNat) : ∃ u, t.divQuick d = .ok u ∧
      Psw.c u.psw = false ∧ Psw.ov u.psw = true ∧ Computed [15, 14, 9] (wordBytes 0 (t.rAddr 2)) t u := by
  obtain ⟨m, write, _, computed⟩ := erWrite_computed present (Config.freeWord t.draws)
    (setC_setZ_setOv_sameBits t.psw false (Config.freeBit t.draws) true) .er1 (Config.freeWord (t.draws + 1))
  refine ⟨_, ?_, by simp, by simp, computed.draw 2⟩
  simp only [State.divQuick, hlo, res_ok_bind, if_neg hd, gt_iff_lt, if_pos large, write, res_pure]

end

/-! ## The instructions -/

section
variable {s t u : State} {i : Instr} {l : Loc}

theorem locW_setData {p : WOp} (h : locW p s = .ok (l, t)) : ∃ d, t = s.setData d := ⟨_, (locW_located h).data⟩

theorem locB_setData {p : BOp} (h : locB p s = .ok (l, t)) : ∃ d, t = s.setData d := ⟨_, (locB_located h).data⟩

/-- An instruction that locates and reads its word operand and then runs `f` on it. -/
theorem exec_ofWord {p : WOp} {v : Word} {f : State → Word → Res State}
    (hi : exec i s = retire s (locW p s >>= fun x => rdW x.1 x.2 >>= f x.2)) (hl : locW p s = .ok (l, t))
    (hv : rdW l t = .ok v) (hf : f t v = .ok u) : exec i s = .next (u.setDdFetch (Psw.dd s.psw)) := by
  rw [hi, hl, res_ok_bind, hv, res_ok_bind, hf, retire_ok]

/-- An instruction that locates and reads its byte operand and then runs `f` on it. -/
theorem exec_ofByte {p : BOp} {v : Byte} {f : State → Byte → Res State}
    (hi : exec i s = retire s (locB p s >>= fun x => rdB x.1 x.2 >>= f x.2)) (hl : locB p s = .ok (l, t))
    (hv : rdB l t = .ok v) (hf : f t v = .ok u) : exec i s = .next (u.setDdFetch (Psw.dd s.psw)) := by
  rw [hi, hl, res_ok_bind, hv, res_ok_bind, hf, retire_ok]

theorem exec_mulW {p : WOp} {m : Word} (hl : locW p s = .ok (l, t)) (hm : rdW l t = .ok m) (hu : t.mulWord m = .ok u) :
    exec (.mulW p) s = .next (u.setDdFetch (Psw.dd s.psw)) :=
  exec_ofWord (f := State.mulWord) rfl hl hm hu

/-- SQR is MUL of the accumulator (R332). -/
theorem exec_sqrA {m : Word} (hl : locW .acc s = .ok (l, t)) (hm : rdW l t = .ok m) (hu : t.mulWord m = .ok u) :
    exec .sqrA s = .next (u.setDdFetch (Psw.dd s.psw)) :=
  exec_ofWord (f := State.mulWord) rfl hl hm hu

theorem exec_mulbB {p : BOp} {m : Byte} (hl : locB p s = .ok (l, t)) (hm : rdB l t = .ok m) :
    exec (.mulbB p) s = .next ((t.mulByte m).setDdFetch (Psw.dd s.psw)) :=
  exec_ofByte (f := fun t v => .ok (t.mulByte v)) rfl hl hm rfl

/-- SQRB is MULB of the accumulator (R333). -/
theorem exec_sqrbA {m : Byte} (hl : locB .acc s = .ok (l, t)) (hm : rdB l t = .ok m) :
    exec .sqrbA s = .next ((t.mulByte m).setDdFetch (Psw.dd s.psw)) :=
  exec_ofByte (f := fun t v => .ok (t.mulByte v)) rfl hl hm rfl

theorem exec_divW {p : WOp} {d : Word} (hl : locW p s = .ok (l, t)) (hd : rdW l t = .ok d) (hu : t.divWord d = .ok u) :
    exec (.divW p) s = .next (u.setDdFetch (Psw.dd s.psw)) :=
  exec_ofWord (f := State.divWord) rfl hl hd hu

theorem exec_divqW {p : WOp} {d : Word} (hl : locW p s = .ok (l, t)) (hd : rdW l t = .ok d)
    (hu : t.divQuick d = .ok u) : exec (.divqW p) s = .next (u.setDdFetch (Psw.dd s.psw)) :=
  exec_ofWord (f := State.divQuick) rfl hl hd hu

theorem exec_divbB {p : BOp} {d : Byte} (hl : locB p s = .ok (l, t)) (hd : rdB l t = .ok d)
    (hu : t.divByte d = .ok u) : exec (.divbB p) s = .next (u.setDdFetch (Psw.dd s.psw)) :=
  exec_ofByte (f := State.divByte) rfl hl hd hu

end

/-- Settles O34: SQR and SQRB are MUL and MULB of the accumulator, and the product has twice the width of its factors. -/
theorem multiplyResult : Obligations.MultiplyResult := by
  refine fun s present => ⟨fun i p m t l hi hl hm => ?word, fun i p m t l hi hl hm => ?byte⟩
  case word =>
    obtain ⟨d, rfl⟩ := locW_setData hl
    obtain ⟨u, lo, hu, hlo, product, z, computed⟩ := mulWord_computed (t := s.setData d) present m
    have runs : exec i s = .next (u.setDdFetch (Psw.dd s.psw)) := by
      obtain rfl | ⟨rfl, rfl⟩ := hi
      · exact exec_mulW hl hm hu
      · exact exec_sqrA hl hm hu
    exact ⟨_, lo, runs, hlo, product, z, computed.retired _⟩
  case byte =>
    obtain ⟨d, rfl⟩ := locB_setData hl
    obtain ⟨product, z, computed⟩ := mulByte_computed (s.setData d) m
    have runs : exec i s = .next (((s.setData d).mulByte m).setDdFetch (Psw.dd s.psw)) := by
      obtain rfl | ⟨rfl, rfl⟩ := hi
      · exact exec_mulbB hl hm
      · exact exec_sqrbA hl hm
    exact ⟨_, runs, product, z, computed.retired _⟩

/-- Settles O35: each division runs where its operand was located, and its quotient and remainder fit where they go. -/
theorem divideResult : Obligations.DivideResult := by
  refine fun s present => ⟨fun p d t l lo n hl hv hlo hd hn => ⟨?div, fun fits => ?divq⟩, fun p d t l hl hv hd => ?divb⟩
  case div =>
    obtain ⟨m, rfl⟩ := locW_setData hl
    obtain ⟨u, q, r, hu, hq, hr, quotient, remainder, c, z, computed⟩ :=
      divWord_computed (t := s.setData m) present hlo hd hn
    exact ⟨_, q, r, exec_divW hl hv hu, hq, hr, quotient, remainder, c, z, computed.retired _⟩
  case divq =>
    obtain ⟨m, rfl⟩ := locW_setData hl
    obtain ⟨u, r, hu, hr, quotient, remainder, c, ov, z, computed⟩ :=
      divQuick_computed (t := s.setData m) present hlo hd hn fits
    exact ⟨_, r, exec_divqW hl hv hu, hr, quotient, remainder, c, ov, z, computed.retired _⟩
  case divb =>
    obtain ⟨m, rfl⟩ := locB_setData hl
    obtain ⟨u, r, hu, hr, quotient, remainder, c, z, computed⟩ := divByte_computed (t := s.setData m) present hd
    exact ⟨_, r, exec_divbB hl hv hu, hr, quotient, remainder, c, z, computed.retired _⟩

/-- Settles O36: the free values go where the results would, so nothing but those places and the flags changes. -/
theorem divideOpenCases : Obligations.DivideOpenCases := by
  refine fun s present => ⟨fun p t l hl hv => ⟨?div, ?divq⟩, fun p t l d lo hl hv hd hlo large => ?overflow,
    fun p t l hl hv => ?divb⟩
  case div =>
    obtain ⟨m, rfl⟩ := locW_setData hl
    obtain ⟨u, hu, c, computed⟩ := divWord_zero_computed (t := s.setData m) present
    exact ⟨_, exec_divW hl hv hu, c, computed.retired _⟩
  case divq =>
    obtain ⟨m, rfl⟩ := locW_setData hl
    obtain ⟨u, hu, c, computed⟩ := divQuick_zero_computed (t := s.setData m) present
    exact ⟨_, exec_divqW hl hv hu, c, computed.retired _⟩
  case overflow =>
    obtain ⟨m, rfl⟩ := locW_setData hl
    obtain ⟨u, hu, c, ov, computed⟩ := divQuick_overflow_computed (t := s.setData m) present hlo hd large
    exact ⟨_, exec_divqW hl hv hu, c, ov, computed.retired _⟩
  case divb =>
    obtain ⟨m, rfl⟩ := locB_setData hl
    obtain ⟨u, hu, c, computed⟩ := divByte_zero_computed (t := s.setData m) present
    exact ⟨_, exec_divbB hl hv hu, c, computed.retired _⟩

end Sys2Proof.Machine

/-! # The ROM table reference: LC, LCB, CMPC, CMPCB -/

namespace Sys2Proof.Machine

/- One thread, as in the tests: elaborating beside them would not fit the memory of the check. -/
set_option Elab.async false

section
variable {s t : State} {off base : Word}

/-! ## The table offset (R360) -/

/-- The pointer's own state is the one it was located in: a DP move comes before the table is read. -/
theorem tablePtr_some {p : WOp} {l : Loc} {x : Word} (hl : locW p s = .ok (l, t)) (hx : rdW l t = .ok x) :
    tablePtr (some p) base s = .ok (x + base, t) := by
  simp only [tablePtr, tableOff, hl, res_ok_bind, hx, res_pure]

theorem tablePtr_none (base : Word) (s : State) : tablePtr none base s = .ok (base, s) := rfl

/-! ## Loading and comparing (R361 to R372) -/

theorem tableLoadW_read {v : Word} (hv : tReadWord t off = .ok v) :
    tableLoadW t off = .ok ((t.setA v).setPsw (Psw.setZ t.psw (v == 0))) := by
  simp only [tableLoadW, hv, res_ok_bind, res_pure]

/-- LCB leaves AH. -/
theorem tableLoadB_read {v : Byte} (hv : tReadByte t off = .ok v) :
    tableLoadB t off = .ok ((t.setA (mkWord (hiByte t.a) v)).setPsw (Psw.setZ t.psw (v == 0))) := by
  simp only [tableLoadB, hv, res_ok_bind, res_pure, setLo]

/-- CMPC is a comparison of A, which leaves A. -/
theorem tableCmpW_read {v : Word} (hv : tReadWord t off = .ok v) :
    tableCmpW t off = .ok (t.setPsw (aluRun .cmp t.psw t.a v).2) := by
  simp only [tableCmpW, hv, res_ok_bind, res_pure, aluAccW_eq, if_true]
  rfl

/-- CMPCB is a comparison of AL, which leaves A. -/
theorem tableCmpB_read {v : Byte} (hv : tReadByte t off = .ok v) :
    tableCmpB t off = .ok (t.setPsw (aluRun .cmp t.psw (loByte t.a) v).2) := by
  simp only [tableCmpB, hv, res_ok_bind, res_pure, aluAccB_eq, if_true]
  rfl

/-! ## The instructions -/

section
variable {cmp : Bool} {p : Option WOp} (ptr : tablePtr p base s = .ok (off, t))
include ptr

theorem run_tableW : (Shape.tableW cmp p base).run s =
    retire s (if cmp then tableCmpW t off else tableLoadW t off) := by
  simp only [Shape.run, ptr, res_ok_bind]

theorem run_tableB : (Shape.tableB cmp p base).run s =
    retire s (if cmp then tableCmpB t off else tableLoadB t off) := by
  simp only [Shape.run, ptr, res_ok_bind]

end

end

/-- Settles O37: the table offset is found first, then the shape loads or compares what the table segment holds there. -/
theorem tableResult : Obligations.TableResult := by
  intro i s t cmp p base off located
  have ptr : tablePtr p base s = .ok (off, t) := by
    cases p with
    | none =>
      obtain ⟨rfl, rfl⟩ := located
      exact tablePtr_none _ _
    | some p =>
      obtain ⟨l, x, hl, hx, rfl⟩ := located
      exact tablePtr_some hl hx
  refine ⟨fun v hi hv => ?word, fun v hi hv => ?byte⟩
  case word =>
    rw [exec_shape s hi, run_tableW ptr]
    cases cmp with
    | true => exact congrArg (retire s) (tableCmpW_read hv)
    | false => exact congrArg (retire s) (tableLoadW_read hv)
  case byte =>
    rw [exec_shape s hi, run_tableB ptr]
    cases cmp with
    | true => exact congrArg (retire s) (tableCmpB_read hv)
    | false => exact congrArg (retire s) (tableLoadB_read hv)

end Sys2Proof.Machine

/-! # Bits: SB, RB, MB, BAND to BXOR and the register-indirect forms -/

namespace Sys2Proof.Machine

/- One thread, as in the tests: elaborating beside them would not fit the memory of the check. -/
set_option Elab.async false

section
variable {s t u : State} {l : Loc} {x : Byte} {n : Nat}

/-! ## One bit of a located byte (R380 to R391) -/

/-- Z is in PSW before the byte is stored, so a store to PSW overrides it (D11). -/
theorem putBitZ_read (v : Bool) (hx : rdB l t = .ok x) :
    putBitZ l n v t = wrB l (putBit x n v) (t.setPsw (Psw.setZ t.psw (!x.getLsbD n))) := by
  rw [putBitZ, hx, res_ok_bind]

theorem putBitOnly_read (v : Bool) (hx : rdB l t = .ok x) : putBitOnly l n v t = wrB l (putBit x n v) t := by
  rw [putBitOnly, hx, res_ok_bind]

theorem bitToCarry_read (op : CarryOp) (hx : rdB l t = .ok x) :
    bitToCarry op l n t = .ok (t.setPsw (Psw.setC t.psw (carryRun op (Psw.c t.psw) (x.getLsbD n)))) := by
  rw [bitToCarry, hx, res_ok_bind, res_pure]

/-! ## The bit of a position-direct instruction -/

theorem run_bitSet {v : Bool} {b : BitOperand} {bit : Fin 8} (hl : locBit b s = .ok (l, t)) :
    (Shape.bitSet v b bit).run s = retire s (putBitZ l bit.val v t) := by
  rw [Shape.run, hl, res_ok_bind]

theorem atBit_located {p : BOp} {f : Loc → State → Res State} (hl : locB p s = .ok (l, t)) :
    atBit p f s = retire s (f l t) := by
  rw [atBit, hl, res_ok_bind]

theorem exec_bitCarry {i : Instr} {op : CarryOp} {p : BOp} {bit : Fin 8} (hi : shapeOf i = some (.bitCarry op p bit))
    (hl : locB p s = .ok (l, t)) (hx : rdB l t = .ok x) :
    exec i s = .next ((t.setPsw (Psw.setC t.psw (carryRun op (Psw.c t.psw) (x.getLsbD bit.val)))).setDdFetch
      (Psw.dd s.psw)) := by
  rw [exec_shape s hi, Shape.run, atBit_located hl, bitToCarry_read op hx, retire_ok]

/-! ## The bit of a register-indirect instruction (R392) -/

/-- The byte above PSWL is PSWH, and above PSWH come the data addresses from 6 on (log 30). -/
theorem upLoc_psw (high : Bool) (d : Nat) :
    upLoc (.psw high) d = if high.toNat + d ≤ 1 then .psw (high || decide (d = 1))
      else .data (BitVec.ofNat 16 (4 + high.toNat + d)) := by
  rw [upLoc, Nat.add_assoc]
  split
  · next inPsw =>
    cases high with
    | false => rw [Bool.toNat_false, Nat.zero_add, Bool.false_or, beq_eq_decide]
    | true =>
      obtain rfl : d = 0 := Nat.le_zero.mp (Nat.le_of_add_le_add_left inPsw)
      rfl
  · rfl

theorem atBlockBit_located {p : BOp} {f : Loc → Nat → State → Res State} {k : Nat} (hl : locB p s = .ok (l, t))
    (hk : k = (loByte t.a).toNat) : atBlockBit p f s = retire s (f (upLoc l (k / 8)) (k % 8) t) := by
  rw [atBlockBit, hl, res_ok_bind, hk]

theorem exec_blockSet {i : Instr} {v : Bool} {p : BOp} {k : Nat} (hi : shapeOf i = some (.blockSet v p))
    (hl : locB p s = .ok (l, t)) (hk : k = (loByte t.a).toNat) (hx : rdB (upLoc l (k / 8)) t = .ok x)
    (hw : wrB (upLoc l (k / 8)) (putBit x (k % 8) v) (t.setPsw (Psw.setZ t.psw (!x.getLsbD (k % 8)))) = .ok u) :
    exec i s = .next (u.setDdFetch (Psw.dd s.psw)) := by
  rw [exec_shape s hi, Shape.run, atBlockBit_located hl hk, putBitZ_read v hx, hw, retire_ok]

end

/-- Settles O38: the forms of SB and RB, with MAC, share one shape, and `MB *.bit,C` has its own. -/
theorem bitWriteResult : Obligations.BitWriteResult := by
  refine fun i s t u l x bit => ⟨fun v b hi hl hx hw => ?set, fun p hi hl hx hw => ?fromC⟩
  case set => rw [exec_shape s hi, run_bitSet hl, putBitZ_read v hx, hw, retire_ok]
  case fromC => rw [exec_shape s hi, Shape.run, atBit_located hl, putBitOnly_read _ hx, hw, retire_ok]

/-- Settles O39: one shape, with the six operations of `carryRun`. -/
theorem bitToCarryResult : Obligations.BitToCarryResult :=
  fun _ _ _ _ _ _ hl hx => ⟨exec_bitCarry (op := .move) rfl hl hx, exec_bitCarry (op := .and) rfl hl hx,
    exec_bitCarry (op := .andn) rfl hl hx, exec_bitCarry (op := .or) rfl hl hx, exec_bitCarry (op := .orn) rfl hl hx,
    exec_bitCarry (op := .xor) rfl hl hx⟩

/-- Settles O40: the byte that holds bit AL is the one `upLoc` finds, and each instruction acts on that byte as its
position-direct form does. -/
theorem bitBlockResult : Obligations.BitBlockResult := by
  intro s t u l m x p k hl hk hm hx
  have up : upLoc l (k / 8) = m := by
    rw [hm]
    cases l with
    | psw high => exact upLoc_psw high _
    | acc | phys | data => rfl
  rw [← up] at hx ⊢
  refine ⟨fun hw => ?sbr, fun hw => ?rbr, ?tbr, ?mbrToC, fun hw => ?mbrFromC⟩
  case sbr => exact exec_blockSet rfl hl hk hx hw
  case rbr => exact exec_blockSet rfl hl hk hx hw
  case tbr =>
    rw [exec_shape (sh := .blockTest p) s rfl, Shape.run, atBlockBit_located hl hk, hx, res_ok_bind, res_pure, retire_ok]
  case mbrToC =>
    rw [exec_shape (sh := .blockCarry p) s rfl, Shape.run, atBlockBit_located hl hk, bitToCarry_read .move hx, retire_ok]
    rfl
  case mbrFromC =>
    rw [exec_shape (sh := .blockFromC p) s rfl, Shape.run, atBlockBit_located hl hk, putBitOnly_read _ hx, hw, retire_ok]

end Sys2Proof.Machine

/-! # Jumps, calls and returns -/

namespace Sys2Proof.Machine

/- One thread, as in the tests: elaborating beside them would not fit the memory of the check. -/
set_option Elab.async false

/-! ## Conditional jumps (R425 to R437) -/

section
variable {s t u : State} {l : Loc} {x d : Byte}

theorem jumpIf_eq {cond : Bool} {p : Prop} [Decidable p] (h : cond = true ↔ p) (s : State) (d : Byte) :
    s.jumpIf cond d = if p then s.setPc (s.pc + d.signExtend 16) else s :=
  if_congr h rfl rfl

theorem exec_cond {i : Instr} {cc : Cond} {taken : Bool} (hi : shapeOf i = some (.cond cc d))
    (h : cc.holds s.psw = taken) :
    exec i s = .next ((if taken then s.setPc (s.pc + d.signExtend 16) else s).setDdFetch (Psw.dd s.psw)) := by
  rw [exec_shape s hi, Shape.run, condJump, retire_ok, h]
  rfl

/-! ## Jumps on a bit or on an operand (R411 to R424) -/

theorem jumpOnBit_read {want : Bool} {n : Nat} (hx : rdB l t = .ok x) :
    jumpOnBit want l n d t = .ok (if x.getLsbD n = want then t.setPc (t.pc + d.signExtend 16) else t) := by
  rw [jumpOnBit, hx, res_ok_bind, res_pure, jumpIf_eq beq_iff_eq]

theorem jumpOnBitFlip_stays {want : Bool} {n : Nat} (hx : rdB l t = .ok x) (h : x.getLsbD n ≠ want) :
    jumpOnBitFlip want l n d t = .ok t := by
  rw [jumpOnBitFlip, hx, res_ok_bind, if_neg (mt beq_iff_eq.mp h), res_pure]

theorem jumpOnBitFlip_jumps {want : Bool} {n : Nat} (hx : rdB l t = .ok x) (h : x.getLsbD n = want)
    (hw : wrB l (putBit x n (!want)) t = .ok u) :
    jumpOnBitFlip want l n d t = .ok (u.setPc (u.pc + d.signExtend 16)) := by
  rw [jumpOnBitFlip, hx, res_ok_bind, if_pos (beq_iff_eq.mpr h), hw]
  rfl

/-- The test of an operand for 0, as a Boolean and as a proposition. -/
theorem isZero_beq_iff {w : Nat} {y : BitVec w} {want : Bool} : ((y == 0) == want) = true ↔ decide (y = 0) = want := by
  rw [beq_iff_eq, beq_eq_decide]

theorem testJumpW_read {want : Bool} {p : WOp} {y : Word} (hl : locW p s = .ok (l, t)) (hy : rdW l t = .ok y) :
    testJumpW want p d s = .next ((if decide (y = 0) = want then t.setPc (t.pc + d.signExtend 16) else t).setDdFetch
      (Psw.dd s.psw)) := by
  simp only [testJumpW, hl, res_ok_bind, hy, res_pure, retire_ok, jumpIf_eq isZero_beq_iff]

theorem testJumpB_read {want : Bool} {p : BOp} {y : Byte} (hl : locB p s = .ok (l, t)) (hy : rdB l t = .ok y) :
    testJumpB want p d s = .next ((if decide (y = 0) = want then t.setPc (t.pc + d.signExtend 16) else t).setDdFetch
      (Psw.dd s.psw)) := by
  simp only [testJumpB, hl, res_ok_bind, hy, res_pure, retire_ok, jumpIf_eq isZero_beq_iff]

theorem exec_jumpBit {i : Instr} {want : Bool} {b : BitOperand} {bit : Fin 8}
    (hi : shapeOf i = some (.jumpBit want b bit d)) (hl : locBit b s = .ok (l, t)) (hx : rdB l t = .ok x) :
    exec i s = .next ((if x.getLsbD bit.val = want then t.setPc (t.pc + d.signExtend 16) else t).setDdFetch
      (Psw.dd s.psw)) := by
  simp only [exec_shape s hi, Shape.run, hl, res_ok_bind, jumpOnBit_read hx, retire_ok]

/-! ## Loop jumps (R440 to R443) -/

theorem decJump_read {target : State → Word} (hx : rdB l t = .ok x) (hw : wrB l (x - 1) t = .ok u) :
    decJump l target t = .ok (if x = 1 then u else u.setPc (target u)) := by
  rw [decJump, hx, res_ok_bind, hw, res_ok_bind, res_pure]
  exact congrArg Except.ok (if_congr sub_eq_zero rfl rfl)

end

/-- Settles O41: each condition is the table's, written out. -/
theorem conditionalJumps : Obligations.ConditionalJumps := by
  intro s d dev dd rest
  refine ⟨⟨⟨rfl, rfl⟩, exec_cond rfl rfl⟩, ⟨⟨rfl, rfl⟩, exec_cond rfl rfl⟩, ⟨⟨rfl, rfl⟩, exec_cond rfl rfl⟩,
    ⟨⟨rfl, rfl⟩, exec_cond rfl rfl⟩, ⟨⟨rfl, rfl⟩, exec_cond rfl rfl⟩, ⟨⟨rfl, rfl⟩, exec_cond rfl rfl⟩,
    ⟨⟨rfl, rfl⟩, exec_cond (cc := .gts) rfl (Bool.not_or _ _)⟩, ⟨⟨rfl, rfl⟩, exec_cond rfl rfl⟩,
    ⟨⟨rfl, rfl⟩, exec_cond rfl rfl⟩, ⟨⟨rfl, rfl⟩, exec_cond rfl rfl⟩, ⟨⟨rfl, rfl⟩, exec_cond rfl rfl⟩,
    ⟨⟨rfl, rfl⟩, exec_cond rfl rfl⟩⟩

/-- Settles O43: every instruction of the family runs its shape's operation on the located operand. -/
theorem bitAndTestJumpResult : Obligations.BitAndTestJumpResult := by
  refine fun i s t u l x bit want d => ⟨fun b hi hl hx => exec_jumpBit hi hl hx,
    fun p hi hl hx => ⟨fun h => ?stays, fun h hw => ?flips⟩, fun p y hi hl hy => ?word, fun p y hi hl hy => ?byte⟩
  case stays => rw [exec_shape s hi, Shape.run, atBit_located hl, jumpOnBitFlip_stays hx h, retire_ok]
  case flips => rw [exec_shape s hi, Shape.run, atBit_located hl, jumpOnBitFlip_jumps hx h hw, retire_ok]
  case word => exact (exec_shape s hi).trans (testJumpW_read hl hy)
  case byte => exact (exec_shape s hi).trans (testJumpB_read hl hy)

/-- Settles O44: every form is `decJump` at the byte it counts down, with its own target. -/
theorem loopJumpResult : Obligations.LoopJumpResult := by
  refine fun s u x off => ⟨fun i d hi hx hw => ?short, fun i d hi hx hw => ?register, fun p t l d hl hx hw => ?operand⟩
  case short =>
    have run : exec i s = retire s (decJump (.phys off) (rel7 d) s) := by
      obtain ⟨rfl, rfl⟩ | ⟨rfl, rfl⟩ := hi <;> rfl
    rw [run, decJump_read (l := .phys off) hx hw, retire_ok]
    rfl
  case register =>
    have run : exec i s = retire s (decJump (.phys off) (rel8 d) s) := by
      obtain ⟨n, rfl, rfl⟩ | ⟨rfl, rfl⟩ := hi <;> rfl
    rw [run, decJump_read (l := .phys off) hx hw, retire_ok]
    rfl
  case operand =>
    have run : exec (.djnzB p d) s = retire s (decJump l (rel8 d) t) := by
      show execDjnzB p d s = _
      rw [execDjnzB, hl, res_ok_bind]
    rw [run, decJump_read hx hw, retire_ok]
    rfl

/-- Settles O45, by running the decoder and the two jumps, which read no memory. -/
theorem directJumps : Obligations.DirectJumps :=
  fun _ _ _ _ _ _ _ => ⟨rfl, rfl, rfl, rfl, rfl, rfl⟩

/-! ## What a comparison says (R36, R37, R425) -/

/-- A difference `m` of two signed numbers, with `N` the weight of the sign bit: it is out of range, or its residue has the
sign bit, but not both, exactly when it is negative. -/
theorem out_of_range_xor_sign {N m : Int} (low : -(2 * N) ≤ m) (high : m < 2 * N) :
    ¬ ((m < -N ∨ N ≤ m) ↔ N ≤ m % (2 * N)) ↔ m < 0 := by
  have residue := emod_of_neg_le low high
  have := Int.emod_nonneg m (b := 2 * N) (by omega)
  have := Int.emod_lt_of_pos m (b := 2 * N) (by omega)
  omega

theorem toInt_sub_emod {w : Nat} (x y : BitVec w) :
    (x.toInt - y.toInt) % 2 ^ w = ((x.toNat : Int) - y.toNat) % 2 ^ w := by
  have residue (z : BitVec w) : z.toInt % 2 ^ w = (z.toNat : Int) % 2 ^ w := by
    rw [BitVec.toInt_eq_toNat_bmod]
    exact_mod_cast Int.bmod_emod
  rw [Int.sub_emod, residue, residue, ← Int.sub_emod]

section
variable {w : Nat} (hw : 0 < w) (x y : BitVec w)

theorem subFlags_z : (subFlags x y false).z = decide (x = y) := by
  have flag : (subFlags x y false).z = ((subFlags x y false).res == 0) := rfl
  rw [flag, subFlags_false_res, Bool.eq_iff_iff, beq_iff_eq, decide_eq_true_iff]
  exact sub_eq_zero

include hw

theorem subFlags_c : (subFlags x y false).c = decide (x.toNat < y.toNat) := by
  rw [(subFlags_means hw x y false).c, decide_eq_decide, Bool.toNat_false]
  omega

/-- Overflow turns the sign of the difference round, so the two together say that the signed difference is negative. -/
theorem subFlags_ov_xor_s :
    ((subFlags x y false).ov ^^ (subFlags x y false).s) = decide (x.toInt < y.toInt) := by
  have m := subFlags_means hw x y false
  rw [Bool.toNat_false, Int.natCast_zero, sub_zero, sub_zero] at m
  rw [m.ov, m.s, ← toInt_sub_emod, Bool.eq_iff_iff, Bool.xor_iff_ne, ne_eq, decide_eq_decide, decide_eq_true_iff,
    ← sub_neg (a := x.toInt)]
  have pow : (2 : Int) ^ w = 2 * 2 ^ (w - 1) := by exact_mod_cast two_pow_eq hw
  have x_range : -2 ^ (w - 1) ≤ x.toInt ∧ x.toInt < 2 ^ (w - 1) := ⟨BitVec.le_toInt x, BitVec.toInt_lt⟩
  have y_range : -2 ^ (w - 1) ≤ y.toInt ∧ y.toInt < 2 ^ (w - 1) := ⟨BitVec.le_toInt y, BitVec.toInt_lt⟩
  rw [pow]
  refine out_of_range_xor_sign ?_ ?_ <;> omega

end

/-- The flags of a comparison: equality, and the order of the operands without and with sign. -/
theorem cmp_flags {w : Nat} (hw : 0 < w) (p : Word) (x y : BitVec w) :
    Psw.z (aluRun .cmp p x y).2 = decide (x = y) ∧ Psw.c (aluRun .cmp p x y).2 = decide (x.toNat < y.toNat) ∧
      (Psw.ov (aluRun .cmp p x y).2 ^^ Psw.s (aluRun .cmp p x y).2) = decide (x.toInt < y.toInt) := by
  rw [aluRun_sub x y (.inl ⟨.inr rfl, rfl⟩)]
  obtain ⟨c, z, sign, ov, -⟩ := putArith_fields p (subFlags x y false)
  exact ⟨z.trans (subFlags_z x y), c.trans (subFlags_c hw x y), by rw [ov, sign, subFlags_ov_xor_s hw]⟩

/-- Settles O42: the conditions are combinations of the three facts of `cmp_flags`. -/
theorem conditionsAfterCompare : Obligations.ConditionsAfterCompare := by
  intro w p x y hw
  obtain ⟨z, c, signed⟩ := cmp_flags (by omega : 0 < w) p x y
  have eqNat : x = y ↔ x.toNat = y.toNat := BitVec.toNat_inj.symm
  have eqInt : x = y ↔ x.toInt = y.toInt := BitVec.toInt_inj.symm
  refine ⟨?gt, ?ge, c, ?le, z, ?ne, ?gts, ?ges, signed, ?les⟩ <;>
    simp only [Cond.holds, z, c, signed, ← decide_not, ← Bool.decide_and, ← Bool.decide_or, decide_eq_decide]
  case gt => rw [eqNat]; omega
  case ge => omega
  case le => rw [eqNat]; omega
  case gts => rw [eqInt]; omega
  case ges => omega
  case les => rw [eqInt]; omega


/-! ## Transfers (R444 to R456) -/

section
variable {s t u : State} {l : Loc} {c v w : Word}

theorem callNear_ok (h : push16 s s.pc = .ok u) : callNear v s = .ok (u.setPc v) := by
  rw [callNear, h, res_ok_bind, res_pure]

theorem exec_jInd_read {p : WOp} (hl : locW p s = .ok (l, t)) (hv : rdW l t = .ok v) :
    exec (.jInd p) s = .next ((t.setPc v).setDdFetch (Psw.dd s.psw)) :=
  calc exec (.jInd p) s = execJInd p s := rfl
    _ = _ := by simp only [execJInd, hl, res_ok_bind, hv, res_pure, retire_ok]

theorem exec_calInd_read {p : WOp} (hl : locW p s = .ok (l, t)) (hv : rdW l t = .ok v) :
    exec (.calInd p) s = retire s (callNear v t) :=
  calc exec (.calInd p) s = execCalInd p s := rfl
    _ = _ := by simp only [execCalInd, hl, res_ok_bind, hv]

theorem acalTarget_toNat (h : Fin 8) (lo : Byte) : (acalTarget h lo).toNat = 0x1000 + 0x100 * h.val + lo.toNat := by
  have := h.isLt
  have := lo.isLt
  rw [acalTarget, BitVec.toNat_ofNat]
  omega

/-- Settles O46: a call through an operand pushes in the state its operand was located in, where PC is still NextPC. -/
theorem nearTransferResult : Obligations.NearTransferResult := by
  refine fun s t u l v => ⟨fun p hl hv => ⟨exec_jInd_read hl hv, fun pushed => ?ind⟩,
    fun pushed => ⟨?cal, ?scal, fun h lo => ⟨acalTarget h lo, ?acal, acalTarget_toNat h lo⟩⟩⟩
  case ind =>
    rw [← (locW_located hl).wrote.pc] at pushed
    rw [exec_calInd_read hl hv, callNear_ok pushed, retire_ok]
  case cal => exact congrArg (retire s) (callNear_ok pushed)
  case scal => exact congrArg (retire s) (callNear_ok pushed)
  case acal => exact congrArg (retire s) (callNear_ok pushed)

theorem farOnly_far (far : s.farCode = true) (k : Host.Outcome State Fault Refusal) : farOnly s k = k := if_pos far

/-- A pop, by its read and the ROM window, completes. -/
theorem pop16_of_ok (read : memReadWord (s.setSsp (s.ssp + 2)) 0 (s.ssp + 2) = .ok v)
    (window : (s.setSsp (s.ssp + 2)).throughWindow 0 (s.ssp + 2) = false) :
    pop16 s = .ok (v, s.setSsp (s.ssp + 2)) := by
  simp only [pop16, State.setSsp_ssp, window, Bool.false_eq_true, if_false, read, res_ok_bind, res_pure]

/-- What a pop reads does not depend on CSR. -/
theorem pop16_setCsr (h : pop16 s = .ok (v, t)) (b : Byte) : pop16 (s.setCsr b) = .ok (v, t.setCsr b) := by
  obtain ⟨rfl, read, window⟩ := pop16_ok h
  exact pop16_of_ok (s := s.setCsr b) read window

theorem exec_rt_popped (h : pop16 s = .ok (w, t)) : exec .rt s = .next ((t.setPc w).setDdFetch (Psw.dd s.psw)) :=
  calc exec .rt s = execRt s := rfl
    _ = _ := by simp only [execRt, h, res_ok_bind, res_pure, retire_ok]

theorem exec_frt_popped (far : s.farCode = true) (hc : pop16 s = .ok (c, t)) (hw : pop16 t = .ok (w, u)) :
    exec .frt s = .next (((u.setCsr (loByte c)).setPc w).setDdFetch (Psw.dd s.psw)) :=
  calc exec .frt s = farOnly s _ := rfl
    _ = _ := by simp only [farOnly_far far, hc, res_ok_bind, pop16_setCsr hw, res_pure, retire_ok]

theorem exec_fcal_pushed {seg : Byte} (far : s.farCode = true) (h : pushFar s = .ok u) :
    exec (.fcal seg v) s = .next (((u.setCsr seg).setPc v).setDdFetch (Psw.dd s.psw)) :=
  calc exec (.fcal seg v) s = execFcal seg v s := rfl
    _ = _ := by simp only [execFcal, farOnly_far far, h, res_ok_bind, res_pure, retire_ok]

/-- On the same device the same bits of CSR are implemented. -/
theorem setCsr_of_dev (h : t.dev = s.dev) (b : Byte) : t.setCsr b = t.setCsrRaw (b &&& segMask s.dev.csrBits) := by
  rw [State.setCsr, h]

/-- Settles O49: the pushes and pops leave the device, so CSR keeps the implemented bits of the device before them. -/
theorem farTransferResult : Obligations.FarTransferResult := by
  refine fun s t u seg v c w => ⟨fun far => ⟨fun hpc hcsr => ?fcal, ?fj, fun hc hw => ?frt⟩, exec_rt_popped⟩
  case fcal =>
    rw [exec_fcal_pushed far (pushFar_ok hpc hcsr), setCsr_of_dev ((push16_wrote hcsr).dev.trans (push16_wrote hpc).dev)]
  case fj => exact farOnly_far far _
  case frt =>
    rw [exec_frt_popped far hc hw, setCsr_of_dev ((pop16_wrote hw).dev.trans (pop16_wrote hc).dev)]

end

/-! ## Instructions that share the code of another (R438, R439, R443, R449, R481) -/

/-- OV is bit 1 of PSWH (R22). -/
theorem getLsbD_hiByte_one (p : Word) : (hiByte p).getLsbD 1 = Psw.ov p := by
  simp [hiByte, Psw.ov]

/-- Settles O50: the bytes and the runs agree by definition, and bit 1 of PSWH is OV. -/
theorem aliasesAreTheirCore : Obligations.AliasesAreTheirCore := by
  refine fun dev s v d a bit => ⟨⟨rfl, rfl, rfl, rfl⟩, ⟨rfl, rfl⟩, ⟨rfl, rfl, rfl, rfl, ?jov⟩, ⟨rfl, rfl, rfl, rfl, ?jnv⟩,
    rfl, rfl⟩
  case jov =>
    rw [exec_jumpBit (b := .pre .pswh) (l := .psw true) rfl rfl rfl, ← getLsbD_hiByte_one]
    rfl
  case jnv =>
    rw [exec_jumpBit (b := .pre .pswh) (l := .psw true) rfl rfl rfl, ← getLsbD_hiByte_one]
    rfl

/-! ## The words above SSP -/

/-- The first words above SSP are `ws`, from the one a pop reads on, in ordinary memory. -/
def OnStack (ws : List Word) (s : State) : Prop :=
  ∀ k v, ws[k]? = some v → PlainWord s (s.ssp + BitVec.ofNat 16 (2 * (k + 1))) ∧
    memReadWord s 0 (s.ssp + BitVec.ofNat 16 (2 * (k + 1))) = .ok v

section
variable {s t u : State} {v : Word} {ws : List Word}

theorem OnStack.nil (s : State) : OnStack [] s := fun k v h => by simp at h

/-- What stands above SSP depends on SSP, the device, ROMWIN and data memory alone. -/
theorem OnStack.congr (h : OnStack ws s) (ssp : t.ssp = s.ssp) (dev : t.dev = s.dev) (romwin : t.romwin = s.romwin)
    (data : t.data = s.data) : OnStack ws t := by
  intro k v at_k
  obtain ⟨plain, read⟩ := h k v at_k
  rw [ssp]
  exact ⟨plain.congr dev romwin, (memReadWord_congr plain.1 dev fun a _ => cell_congr data a).trans read⟩

theorem OnStack.pop16 (h : OnStack (v :: ws) s) : pop16 s = .ok (v, s.setSsp (s.ssp + 2)) :=
  have ⟨plain, read⟩ := h 0 v rfl
  pop16_of_read plain read

theorem OnStack.tail (h : OnStack (v :: ws) s) : OnStack ws (s.setSsp (s.ssp + 2)) := by
  intro k w at_k
  obtain ⟨plain, read⟩ := h (k + 1) w at_k
  rw [← add_two_add] at plain read
  exact ⟨plain.congr rfl rfl,
    (memReadWord_congr (s := s) (t := s.setSsp (s.ssp + 2)) plain.1 rfl fun _ _ => rfl).trans read⟩

/-- A word a few words up from SSP shares no byte with the word at SSP. -/
theorem not_mem_wordBytes_above {off : Word} {k a : Nat} (few : k < 0x7FFF)
    (h : a ∈ wordBytes 0 (off + BitVec.ofNat 16 (2 * (k + 1)))) : a ∉ wordBytes 0 off := by
  rw [mem_wordBytes_zero, BitVec.toNat_add, BitVec.toNat_ofNat] at h
  rw [mem_wordBytes_zero]
  have := off.isLt
  omega

theorem OnStack.push (h : OnStack ws s) (few : ws.length ≤ 5) (plain : PlainWord s s.ssp) (pushed : push16 s v = .ok t) :
    OnStack (v :: ws) t := by
  obtain ⟨t', pushed', state, low, high, kept⟩ := push16_stored v plain
  obtain rfl : t' = t := Except.ok.inj (pushed'.symm.trans pushed)
  have ssp : t'.ssp = s.ssp - 2 := by rw [state]; rfl
  have dev : t'.dev = s.dev := by rw [state]; rfl
  have romwin : t'.romwin = s.romwin := by rw [state]; rfl
  intro k w at_k
  cases k with
  | zero =>
    obtain rfl : v = w := Option.some.inj at_k
    have top : t'.ssp + BitVec.ofNat 16 (2 * (0 + 1)) = s.ssp := by rw [ssp]; exact BitVec.sub_add_cancel _ _
    obtain ⟨notSfr, there, there', -⟩ := plain.congr dev romwin
    have read := memReadWord_plain notSfr there (key_evenOff_succ 0 s.ssp ▸ there') low high
    rw [mkWord_hi_lo] at read
    rw [top]
    exact ⟨plain.congr dev romwin, read⟩
  | succ k =>
    obtain ⟨above, read⟩ := h k w at_k
    have short : k < ws.length := (List.getElem?_eq_some_iff (l := ws).mp at_k).1
    have place : t'.ssp + BitVec.ofNat 16 (2 * (k + 1 + 1)) = s.ssp + BitVec.ofNat 16 (2 * (k + 1)) := by
      rw [← add_two_add, ssp]
      exact congrArg (· + _) (BitVec.sub_add_cancel _ _)
    rw [place]
    exact ⟨above.congr dev romwin, (memReadWord_congr above.1 dev fun a m =>
      kept a (not_mem_wordBytes_above (by omega) m)).trans read⟩

/-- From s to t the words `ws` were pushed, the first of them last. -/
structure Stacked (ws : List Word) (s t : State) : Prop where
  state : t = (s.setData t.data).setSsp (s.ssp - BitVec.ofNat 16 (2 * ws.length))
  onStack : OnStack ws t
  cells : ∀ a, (∀ k, k < ws.length → a ∉ wordBytes 0 (s.ssp - BitVec.ofNat 16 (2 * k))) → t.cell a = s.cell a

theorem Stacked.exists_data (h : Stacked ws s t) :
    ∃ data, t = (s.setData data).setSsp (s.ssp - BitVec.ofNat 16 (2 * ws.length)) :=
  ⟨_, h.state⟩

theorem Stacked.nil (s : State) : Stacked [] s s :=
  ⟨congrArg s.setSsp (sub_no_words s.ssp).symm, OnStack.nil s, fun _ _ => rfl⟩

theorem Stacked.push (h : Stacked ws s t) (few : ws.length ≤ 5)
    (plain : PlainWord s (s.ssp - BitVec.ofNat 16 (2 * ws.length))) (pushed : push16 t v = .ok u) :
    Stacked (v :: ws) s u := by
  have ssp : t.ssp = s.ssp - BitVec.ofNat 16 (2 * ws.length) := by rw [h.state]; rfl
  have here : PlainWord t t.ssp := ssp ▸ plain.congr (by rw [h.state]; rfl) (by rw [h.state]; rfl)
  obtain ⟨u', pushed', state, -, -, kept⟩ := push16_stored v here
  obtain rfl : u' = u := Except.ok.inj (pushed'.symm.trans pushed)
  refine ⟨?_, h.onStack.push few here pushed, fun a beside => ?_⟩
  · calc u' = (t.setData u'.data).setSsp (t.ssp - 2) := state
      _ = (s.setData u'.data).setSsp (t.ssp - 2) := by rw [h.state]; rfl
      _ = _ := by rw [ssp, List.length_cons, ← sub_two_sub, sub_right_comm]
  · exact (kept a (ssp ▸ beside _ (Nat.lt_succ_self _))).trans (h.cells a fun k hk => beside k (Nat.lt_succ_of_lt hk))


/-- What a call or an interrupt entry leaves: the words `ws` above SSP, and of the registers only PSW, PC, CSR and DD_FETCH
changed. -/
structure Entered (ws : List Word) (s u : State) : Prop where
  state : u = { s with
    psw := u.psw, pc := u.pc, csr := u.csr, ssp := s.ssp - BitVec.ofNat 16 (2 * ws.length), ddFetch := u.ddFetch,
    data := u.data }
  onStack : OnStack ws u

theorem Stacked.entered (h : Stacked ws s t) (psw pc : Word) (csr : Byte) (dd : Bool) :
    Entered ws s ((((t.setPsw psw).setCsrRaw csr).setPc pc).setDdFetch dd) := by
  obtain ⟨data, rfl⟩ := h.exists_data
  exact ⟨rfl, h.onStack.congr rfl rfl rfl rfl⟩

theorem Entered.farCode (h : Entered ws s u) : u.farCode = s.farCode := by rw [h.state]; rfl

theorem Entered.dev (h : Entered ws s u) : u.dev = s.dev := by rw [h.state]

/-- Popping all the words brings SSP back. -/
theorem Entered.ssp_back (h : Entered ws s u) : u.ssp + BitVec.ofNat 16 (2 * ws.length) = s.ssp := by
  rw [h.state]
  exact BitVec.sub_add_cancel _ _

/-! ## A return undoes its call (R447 to R456) -/

/-- NextPC pushed, perhaps after an operand's DP was moved, and PC changed: a near call. -/
theorem entered_of_push {data : List Host.Cell} (plain : PlainWord s s.ssp)
    (pushed : push16 (s.setData data) s.pc = .ok t) (dd : Bool) :
    Entered [s.pc] s ((t.setPc v).setDdFetch dd) ∧ t.csr = s.csr := by
  have stacked := (Stacked.nil (s.setData data)).push (Nat.zero_le _)
    ((sub_no_words s.ssp).symm ▸ plain.congr rfl rfl) pushed
  obtain ⟨after, rfl⟩ := stacked.exists_data
  exact ⟨⟨rfl, stacked.onStack.congr rfl rfl rfl rfl⟩, rfl⟩

/-- NextPC pushed, then CSR: a far call. -/
theorem pushFar_stacked (h : pushFar s = .ok t) (plain : PlainWord s s.ssp) (plain' : PlainWord s (s.ssp - 2)) :
    Stacked [zext s.csr, s.pc] s t := by
  obtain ⟨r, hpc, hcsr⟩ := res_bind_ok.mp h
  rw [(push16_wrote hpc).csr] at hcsr
  exact ((Stacked.nil s).push (Nat.zero_le _) ((sub_no_words s.ssp).symm ▸ plain) hpc).push
    (Nat.succ_le_succ (Nat.zero_le _)) plain' hcsr

theorem exec_callNear_entered {i : Instr} (run : exec i s = retire s (callNear v s)) (h : exec i s = .next u)
    (plain : PlainWord s s.ssp) : Entered [s.pc] s u ∧ u.csr = s.csr := by
  obtain ⟨t, called, rfl⟩ := retire_next.mp (run.symm.trans h)
  obtain ⟨r, pushed, ends⟩ := res_bind_ok.mp called
  cases ends
  exact entered_of_push (data := s.data) plain pushed _

theorem exec_calInd_entered {p : WOp} (h : exec (.calInd p) s = .next u) (plain : PlainWord s s.ssp) :
    Entered [s.pc] s u ∧ u.csr = s.csr := by
  obtain ⟨t, called, rfl⟩ := retire_next.mp h
  obtain ⟨⟨l, r⟩, located, called⟩ := res_bind_ok.mp called
  obtain ⟨w, -, called⟩ := res_bind_ok.mp called
  obtain ⟨q, pushed, ends⟩ := res_bind_ok.mp called
  cases ends
  rw [(locW_located located).data] at pushed
  exact entered_of_push plain pushed _

theorem exec_vcal_near_entered {n : Fin 16} (near : s.farCode = false) (h : exec (.vcal n) s = .next u)
    (plain : PlainWord s s.ssp) : Entered [s.pc] s u ∧ u.csr = s.csr := by
  rw [exec_vcal, execVcal, near, if_neg Bool.false_ne_true] at h
  obtain ⟨t, called, rfl⟩ := retire_next.mp h
  obtain ⟨r, pushed, called⟩ := res_bind_ok.mp called
  obtain ⟨w, -, ends⟩ := res_bind_ok.mp called
  cases ends
  exact entered_of_push (data := s.data) plain pushed _

theorem exec_vcal_far_entered {n : Fin 16} (far : s.farCode = true) (h : exec (.vcal n) s = .next u)
    (plain : PlainWord s s.ssp) (plain' : PlainWord s (s.ssp - 2)) : Entered [zext s.csr, s.pc] s u := by
  rw [exec_vcal, execVcal, if_pos far] at h
  obtain ⟨t, called, rfl⟩ := retire_next.mp h
  obtain ⟨r, pushed, called⟩ := res_bind_ok.mp called
  obtain ⟨w, -, ends⟩ := res_bind_ok.mp called
  cases ends
  exact (pushFar_stacked pushed plain plain').entered r.psw w _ _

theorem exec_fcal_entered {seg : Byte} (far : s.farCode = true) (h : exec (.fcal seg v) s = .next u)
    (plain : PlainWord s s.ssp) (plain' : PlainWord s (s.ssp - 2)) : Entered [zext s.csr, s.pc] s u := by
  obtain ⟨t, called, rfl⟩ := retire_next.mp ((farOnly_far far _).symm.trans h)
  obtain ⟨r, pushed, ends⟩ := res_bind_ok.mp called
  cases ends
  exact (pushFar_stacked pushed plain plain').entered r.psw v _ _

theorem loByte_zext (b : Byte) : loByte (zext b) = b := by
  apply BitVec.eq_of_getLsbD_eq
  intro i hi
  simp only [loByte, zext, BitVec.getLsbD_extractLsb', BitVec.getLsbD_setWidth, hi, Nat.zero_add, decide_true, Bool.true_and,
    decide_eq_true (show i < 16 by omega)]

theorem Entered.rt_returns (h : Entered [s.pc] s u) (csr : u.csr = s.csr) :
    ∃ w, exec .rt u = .next w ∧ w.pc = s.pc ∧ w.csr = s.csr ∧ w.ssp = s.ssp :=
  ⟨_, exec_rt_popped h.onStack.pop16, rfl, csr, h.ssp_back⟩

theorem Entered.frt_returns (h : Entered [zext s.csr, s.pc] s u) (far : s.farCode = true)
    (bits : s.csr &&& segMask s.dev.csrBits = s.csr) :
    ∃ w, exec .frt u = .next w ∧ w.pc = s.pc ∧ w.csr = s.csr ∧ w.ssp = s.ssp := by
  refine ⟨_, exec_frt_popped (h.farCode.trans far) h.onStack.pop16 h.onStack.tail.pop16, rfl, ?csr, ?ssp⟩
  case csr =>
    show loByte (zext s.csr) &&& segMask u.dev.csrBits = s.csr
    rw [loByte_zext, h.dev, bits]
  case ssp => exact (add_two_add u.ssp 1).trans h.ssp_back

/-- Settles O47: a call leaves the words of its return above SSP and the memory model as it was. -/
theorem returnUndoesCall : Obligations.ReturnUndoesCall := by
  refine fun i s u h plain => ⟨fun call => ?near, fun call far plain' bits => Entered.frt_returns ?far far bits⟩
  case near =>
    obtain ⟨entered, csr⟩ : Entered [s.pc] s u ∧ u.csr = s.csr := by
      obtain ⟨v, rfl⟩ | ⟨v, rfl⟩ | ⟨n, lo, rfl⟩ | ⟨p, rfl⟩ | ⟨⟨n, rfl⟩, small⟩ := call
      · exact exec_callNear_entered rfl h plain
      · exact exec_callNear_entered rfl h plain
      · exact exec_callNear_entered rfl h plain
      · exact exec_calInd_entered h plain
      · exact exec_vcal_near_entered small h plain
    exact entered.rt_returns csr
  case far =>
    obtain ⟨n, rfl⟩ | ⟨seg, v, rfl⟩ := call
    · exact exec_vcal_far_entered far h plain plain'
    · exact exec_fcal_entered far h plain plain'

/-! ## The return from an interrupt (R457, R512) -/

/-- The CSR word of an interrupt's frame, pushed under the medium and large models alone (R451). -/
def csrWord (far : Bool) (c : Word) : List Word := if far then [c] else []

/-- The words RTI pops: PSW, LRB, A, CSR under the medium and large models, and PC. -/
def rtiFrame (far : Bool) (p l a c pc : Word) : List Word := p :: l :: a :: (csrWord far c ++ [pc])

/-- CSR after RTI pops the word `c` for it, if it does. -/
def State.csrPopped (s : State) (c : Word) : Byte := if s.farCode then loByte c &&& segMask s.dev.csrBits else s.csr

/-- What RTI leaves when it pops `p`, `l`, `a` and `pc`, with CSR `c` and SSP up to `ssp`. -/
def State.resumed (s : State) (p l a : Word) (c : Byte) (pc ssp : Word) : State :=
  ((((((s.setPsw p).setLrb l).setA a).setCsrRaw c).setPc pc).setSsp ssp).setDdFetch (Psw.dd p)

theorem csrWord_length_le (far : Bool) (c : Word) : (csrWord far c).length ≤ 1 := by
  cases far with
  | false => exact Nat.zero_le 1
  | true => exact Nat.le_refl 1

theorem rtiFrame_length (far : Bool) (p l a c pc : Word) :
    (rtiFrame far p l a c pc).length = if far then 5 else 4 := by
  cases far <;> rfl

theorem popCsrIfFar_onStack {c : Word} (h : OnStack (csrWord s.farCode c ++ ws) s) :
    popCsrIfFar s =
        .ok ((s.setCsrRaw (s.csrPopped c)).setSsp (s.ssp + BitVec.ofNat 16 (2 * (csrWord s.farCode c).length))) ∧
      OnStack ws (s.setSsp (s.ssp + BitVec.ofNat 16 (2 * (csrWord s.farCode c).length))) := by
  unfold popCsrIfFar State.csrPopped
  cases far : s.farCode with
  | false =>
    rw [far] at h
    have ssp : s.ssp + BitVec.ofNat 16 (2 * (csrWord false c).length) = s.ssp := BitVec.add_zero _
    rw [ssp]
    exact ⟨rfl, h⟩
  | true =>
    rw [far] at h
    refine ⟨?_, OnStack.tail h⟩
    simp only [if_true, OnStack.pop16 h, res_ok_bind, res_pure]
    rfl

/-- RTI with its words above SSP. -/
theorem exec_rti_onStack {p l a c pc : Word} (h : OnStack (rtiFrame s.farCode p l a c pc) s) :
    exec .rti s = .next (s.resumed p l a (s.csrPopped c) pc
      (s.ssp + BitVec.ofNat 16 (2 * (rtiFrame s.farCode p l a c pc).length))) := by
  have afterPsw : OnStack (l :: a :: (csrWord s.farCode c ++ [pc])) ((s.setSsp (s.ssp + 2)).setPsw p) :=
    h.tail.congr rfl rfl rfl rfl
  have afterLrb : OnStack (a :: (csrWord s.farCode c ++ [pc])) (((s.setSsp (s.ssp + 2 + 2)).setPsw p).setLrb l) :=
    afterPsw.tail.congr rfl rfl rfl rfl
  have afterA : OnStack (csrWord s.farCode c ++ [pc])
      ((((s.setSsp (s.ssp + 2 + 2 + 2)).setPsw p).setLrb l).setA a) := afterLrb.tail.congr rfl rfl rfl rfl
  obtain ⟨csr, rest⟩ := popCsrIfFar_onStack (s := (((s.setSsp (s.ssp + 2 + 2 + 2)).setPsw p).setLrb l).setA a) afterA
  have afterCsr : OnStack [pc] (((((s.setSsp (s.ssp + 2 + 2 + 2 + BitVec.ofNat 16 (2 * (csrWord s.farCode c).length))).setPsw
      p).setLrb l).setA a).setCsrRaw (s.csrPopped c)) := rest.congr rfl rfl rfl rfl
  have ssp : s.ssp + 2 + 2 + 2 + BitVec.ofNat 16 (2 * (csrWord s.farCode c).length) + 2 =
      s.ssp + BitVec.ofNat 16 (2 * (rtiFrame s.farCode p l a c pc).length) := by
    cases s.farCode <;> simp [csrWord, rtiFrame, add_assoc]
  rw [← ssp]
  exact retireSync_next.mpr ⟨_, res_bind_ok.mpr ⟨_, h.pop16, res_bind_ok.mpr ⟨_, afterPsw.pop16,
    res_bind_ok.mpr ⟨_, afterLrb.pop16, res_bind_ok.mpr ⟨_, csr, res_bind_ok.mpr ⟨_, afterCsr.pop16, rfl⟩⟩⟩⟩⟩, rfl⟩

/-- The words above SSP as the statement of RTI gives them, one by one. -/
theorem onStack_of_reads {p l a c pc : Word} {n : Nat} (hn : n = if s.farCode then 5 else 4)
    (plain : ∀ k, 1 ≤ k → k ≤ n → PlainWord s (s.ssp + BitVec.ofNat 16 (2 * k)))
    (hp : memReadWord s 0 (s.ssp + 2) = .ok p) (hl : memReadWord s 0 (s.ssp + 4) = .ok l)
    (ha : memReadWord s 0 (s.ssp + 6) = .ok a) (hc : s.farCode = true → memReadWord s 0 (s.ssp + 8) = .ok c)
    (hpc : memReadWord s 0 (s.ssp + BitVec.ofNat 16 (2 * n)) = .ok pc) :
    OnStack (rtiFrame s.farCode p l a c pc) s := by
  intro k v at_k
  have short := (List.getElem?_eq_some_iff.mp at_k).1
  cases far : s.farCode with
  | false =>
    rw [far] at hn at_k short
    subst hn
    have short : k < 4 := short
    refine ⟨plain _ (Nat.succ_pos k) short, ?_⟩
    interval_cases k <;> cases at_k <;> assumption
  | true =>
    rw [far] at hn at_k short
    subst hn
    have short : k < 5 := short
    refine ⟨plain _ (Nat.succ_pos k) short, ?_⟩
    have hc := hc far
    interval_cases k <;> cases at_k <;> assumption

theorem pushCsrIfFar_stacked (h : Stacked ws s t) (few : ws.length ≤ 5)
    (plain : PlainWord s (s.ssp - BitVec.ofNat 16 (2 * ws.length))) (pushed : pushCsrIfFar t = .ok u) :
    Stacked (csrWord s.farCode (zext s.csr) ++ ws) s u := by
  have farCode : t.farCode = s.farCode := by rw [h.state]; rfl
  have csr : t.csr = s.csr := by rw [h.state]; rfl
  rw [pushCsrIfFar, farCode, csr] at pushed
  cases far : s.farCode with
  | false =>
    rw [far] at pushed
    cases pushed
    exact h
  | true =>
    rw [far] at pushed
    exact h.push few plain pushed

/-- What an interrupt entry leaves on the stack is what RTI pops. -/
theorem takeInterrupt_entered {k : Nat} (h : takeInterrupt s k = .ok u)
    (plain : ∀ j, j < 5 → PlainWord s (s.ssp - BitVec.ofNat 16 (2 * j))) :
    Entered (rtiFrame s.farCode s.psw s.lrb s.a (zext s.csr) s.pc) s u ∧
      ∀ a, (∀ j, j < 5 → a ∉ wordBytes 0 (s.ssp - BitVec.ofNat 16 (2 * j))) → u.cell a = s.cell a := by
  obtain ⟨s1, pushPc, h⟩ := res_bind_ok.mp h
  obtain ⟨s2, pushCsr, h⟩ := res_bind_ok.mp h
  obtain ⟨s3, pushA, h⟩ := res_bind_ok.mp h
  obtain ⟨s4, pushLrb, h⟩ := res_bind_ok.mp h
  obtain ⟨s5, pushPsw, h⟩ := res_bind_ok.mp h
  obtain ⟨pc, -, h⟩ := res_bind_ok.mp h
  cases h
  have short := csrWord_length_le s.farCode (zext s.csr)
  have next {ws : List Word} {r r' : State} {v v' : Word} (h : Stacked ws s r) (few : ws.length ≤ 4) (hv : v' = v)
      (pushed : push16 r v' = .ok r') : Stacked (v :: ws) s r' :=
    h.push (few.trans (Nat.le_succ 4)) (plain _ (Nat.lt_succ_of_le few)) (hv ▸ pushed)
  have toPc := next (Stacked.nil s) (Nat.zero_le _) rfl pushPc
  have toCsr := pushCsrIfFar_stacked toPc (Nat.succ_le_succ (Nat.zero_le 4)) (plain 1 (by decide)) pushCsr
  have few : (csrWord s.farCode (zext s.csr) ++ [s.pc]).length ≤ 2 := by
    rw [List.length_append]
    exact Nat.succ_le_succ short
  have toA := next toCsr (few.trans (by decide)) (by rw [toCsr.state]) pushA
  have toLrb := next toA (Nat.succ_le_succ few |>.trans (by decide)) (by rw [toA.state]) pushLrb
  have toPsw := next toLrb (Nat.succ_le_succ (Nat.succ_le_succ few)) (by rw [toLrb.state]) pushPsw
  exact ⟨toPsw.entered _ pc _ _, fun a beside => toPsw.cells a fun k hk => beside k
    (hk.trans_le (Nat.succ_le_succ (Nat.succ_le_succ (Nat.succ_le_succ few))))⟩

theorem Entered.keptRest (h : Entered ws s u) : KeptRest s u := by
  constructor <;> rw [h.state]

/-- RTI comes back from an interrupt entry. -/
theorem Entered.rti_returns (h : Entered (rtiFrame s.farCode s.psw s.lrb s.a (zext s.csr) s.pc) s u) :
    exec .rti u = .next (u.resumed s.psw s.lrb s.a (u.csrPopped (zext s.csr)) s.pc s.ssp) := by
  have words := h.onStack
  rw [← h.farCode] at words
  rw [exec_rti_onStack words, h.farCode, h.ssp_back]

end

/-- Settles O54: RTI pops the words above SSP one by one, and an interrupt entry leaves exactly those words there. -/
theorem rtiResult : Obligations.RtiResult := by
  refine ⟨fun s p l a c pc n hn plain hp hl ha hc hpc => ?restores, fun s u k taken bits plain => ?undoes⟩
  case restores =>
    rw [exec_rti_onStack (onStack_of_reads hn plain hp hl ha hc hpc), rtiFrame_length, ← hn]
    rfl
  case undoes =>
    obtain ⟨entered, cells⟩ := takeInterrupt_entered taken plain
    refine ⟨_, entered.rti_returns, rfl, rfl, rfl, rfl, rfl, rfl, fun far => ?csr, { entered.keptRest with lrb := rfl },
      cells⟩
    show u.csrPopped (zext s.csr) = s.csr
    rw [State.csrPopped, entered.farCode, if_pos far, loByte_zext, entered.dev, bits]

end Sys2Proof.Machine

/-! # Carry, DD, interrupt enable, and the DD the next instruction is decoded with -/

namespace Sys2Proof.Machine

/- One thread, as in the tests: elaborating beside them would not fit the memory of the check. -/
set_option Elab.async false

/-! ## The instructions without operands (R471 to R479) -/

/-- Settles O56, by running the decoder and the three instructions, which read PSW alone. -/
theorem carryInstructions : Obligations.CarryInstructions :=
  fun _ _ _ _ => ⟨⟨rfl, rfl, rfl⟩, ⟨rfl, rfl, rfl⟩, rfl, rfl, rfl⟩

section
variable {s t u : State}

/-- An instruction that sets DD itself ends with DD_FETCH equal to it. -/
theorem retireSync_dd {r : State} {d : Bool} (h : Psw.dd r.psw = d) : retireSync (.ok r) = .next (r.setDdFetch d) :=
  h ▸ retireSync_ok r

theorem exec_setDD {i : Instr} {d : Bool} (run : exec i s = retireSync (.ok (s.setDD d))) :
    exec i s = .next ((s.setPsw (Psw.setDd s.psw d)).setDdFetch d) :=
  run.trans (retireSync_dd (Psw.dd_setDd s.psw d))

theorem msb_sext8 (b : Byte) : (sext8 b).msb = b.getLsbD 7 :=
  calc (sext8 b).msb = b.msb := by simp [sext8, BitVec.msb_signExtend]
    _ = b.getLsbD 7 := BitVec.msb_eq_getLsbD_last b

theorem exec_extnd (s : State) :
    exec .extnd s = .next (((s.setA ((loByte s.a).signExtend 16)).setPsw
      (Psw.setDd (Psw.setS s.psw ((loByte s.a).getLsbD 7)) true)).setDdFetch true) := by
  rw [← msb_sext8]
  exact retireSync_dd (Psw.dd_setDd _ true)

/-- Settles O57: the three that set DD synchronize DD_FETCH with it, the others leave it the DD they found. -/
theorem statusInstructions : Obligations.StatusInstructions := fun s _ _ _ =>
  ⟨⟨rfl, rfl, exec_setDD rfl⟩, ⟨rfl, rfl, exec_setDD rfl⟩, rfl, rfl, ⟨rfl, rfl, exec_extnd s⟩, rfl⟩

/-! ## DD_FETCH at the end of an instruction (R550) -/

theorem retire_ddFetch {r : Res State} (h : retire s r = .next u) : u.ddFetch = Psw.dd s.psw := by
  obtain ⟨t, -, rfl⟩ := retire_next.mp h
  rfl

theorem retireSync_ddFetch {r : Res State} (h : retireSync r = .next u) : u.ddFetch = Psw.dd u.psw := by
  obtain ⟨t, -, rfl⟩ := retireSync_next.mp h
  rfl

/-- POPS of PSW draws between the old and the new DD (D13). -/
theorem retireDraw_ddFetch {r : Res State} (h : retireDraw s r = .next u) :
    u.ddFetch = Psw.dd s.psw ∨ u.ddFetch = Psw.dd u.psw := by
  obtain ⟨t, -, rfl⟩ := retireDraw_next.mp h
  cases draw : Config.freeBit t.draws with
  | false => exact .inl rfl
  | true => exact .inr rfl

/-- A far transfer leaves the DD it found, the op-code trap that of the reset (R504). -/
theorem farOnly_ddFetch {r : Res State} (h : farOnly s (retire s r) = .next u) :
    u.ddFetch = if s.farCode then Psw.dd s.psw else Psw.dd u.psw := by
  cases far : s.farCode with
  | true => exact retire_ddFetch ((farOnly_far far _).symm.trans h)
  | false => exact retireSync_ddFetch ((farOnly_near _ far).symm.trans h)

/-- Whether a shape sets DD as part of its function: the loads (R200). -/
def Shape.setsDd (sh : Shape) : Bool :=
  match sh with
  | .loadW _ | .loadB _ | .loadImmW _ | .loadImmB _ => true
  | _ => false

/-- A load ends with DD_FETCH equal to the DD it sets, every other shape with the DD it found. -/
theorem Shape.run_ddFetch {sh : Shape} (h : sh.run s = .next u) :
    u.ddFetch = if sh.setsDd then Psw.dd u.psw else Psw.dd s.psw := by
  cases sh with
  | loadW _ | loadB _ | loadImmW _ | loadImmB _ => exact retireSync_ddFetch h
  | exchW p => exact retire_ddFetch (classW_next.mp h).2
  | exchB p => exact retire_ddFetch (classB_next.mp h).2
  | aluAW c op p =>
    cases c with
    | false => exact retire_ddFetch h
    | true => exact retire_ddFetch (classW_next.mp h).2
  | aluAB c op p =>
    cases c with
    | false => exact retire_ddFetch h
    | true => exact retire_ddFetch (classB_next.mp h).2
  | aluImmW op v => exact retire_ddFetch (r := .ok (s.aluAccW op v)) h
  | aluImmB op v => exact retire_ddFetch (r := .ok (s.aluAccB op v)) h
  | cond cc d => exact retire_ddFetch (r := .ok (s.jumpIf (cc.holds s.psw) d)) h
  | _ => exact retire_ddFetch h

/-- Settles O8: an instruction with a shape ends as its shape does, the others one by one; the unlisted ones answer no state. -/
theorem ddFetchAfterInstruction : Obligations.DdFetchAfterInstruction := by
  intro i s u h
  cases hs : shapeOf i with
  | some sh =>
    have ends := Shape.run_ddFetch ((exec_shape s hs).symm.trans h)
    cases i
    all_goals cases hs
    all_goals exact ends
  | none =>
    cases i
    all_goals cases hs
    case none.pops l =>
      cases l with
      | er _ _ _ _ | pr _ _ _ _ => exact retire_ddFetch h
      | cr a lrb psw =>
        cases psw with
        | false => exact retire_ddFetch h
        | true => exact retireDraw_ddFetch h
    case none.rti | none.brk => exact retireSync_ddFetch h
    case none.fcal seg w | none.fj seg w | none.frt => exact farOnly_ddFetch h
    case none.pushsA | none.pushs l | none.mulW p | none.mulbB p | none.sqrA | none.divW p | none.divbB p | none.divqW p
      | none.djnzR4 d | none.djnzR5 d | none.djnzPrL n d | none.djnzB p d | none.jrnzDp d | none.jInd p | none.calCadr w
      | none.calInd p | none.scalCadr w | none.acal a lo | none.vcal v | none.rt => exact retire_ddFetch h
    all_goals cases h
    all_goals rfl

end

end Sys2Proof.Machine

/-! # Taking an interrupt, and what is taken at an instruction boundary -/

namespace Sys2Proof.Machine

/- One thread, as in the tests: elaborating beside them would not fit the memory of the check. -/
set_option Elab.async false

section
variable {s t u : State}

/-! ## The pushes of an interrupt entry complete (R512) -/

section
variable {ws : List Word}

/-- A further push to ordinary memory completes. -/
theorem Stacked.push_ok (h : Stacked ws s t) (few : ws.length ≤ 5)
    (plain : PlainWord s (s.ssp - BitVec.ofNat 16 (2 * ws.length))) (v : Word) :
    ∃ u, push16 t v = .ok u ∧ Stacked (v :: ws) s u := by
  have here : PlainWord t t.ssp := by
    rw [h.state]
    exact plain.congr rfl rfl
  obtain ⟨u, pushed, -⟩ := push16_stored v here
  exact ⟨u, pushed, h.push few plain pushed⟩

theorem Stacked.pushCsrIfFar_ok (h : Stacked ws s t) (few : ws.length ≤ 5)
    (plain : PlainWord s (s.ssp - BitVec.ofNat 16 (2 * ws.length))) :
    ∃ u, pushCsrIfFar t = .ok u ∧ Stacked (csrWord s.farCode (zext s.csr) ++ ws) s u := by
  obtain ⟨u, pushed⟩ : ∃ u, pushCsrIfFar t = .ok u := by
    unfold pushCsrIfFar
    split
    · obtain ⟨u, pushed, -⟩ := h.push_ok few plain (zext t.csr)
      exact ⟨u, pushed⟩
    · exact ⟨t, rfl⟩
  exact ⟨u, pushed, pushCsrIfFar_stacked h few plain pushed⟩

/-- What was pushed k-th, counted from 0, stands k words down from the SSP before the entry. -/
theorem Entered.read {k : Nat} {v : Word} (h : Entered ws s u) (pushed : ws.reverse[k]? = some v) :
    memReadWord u 0 (s.ssp - BitVec.ofNat 16 (2 * k)) = .ok v := by
  have short : k < ws.length := List.length_reverse (as := ws) ▸ (List.getElem?_eq_some_iff.mp pushed).1
  rw [List.getElem?_reverse short] at pushed
  obtain ⟨-, read⟩ := h.onStack _ v pushed
  have ssp : u.ssp = s.ssp - BitVec.ofNat 16 (2 * ws.length) := by rw [h.state]
  rw [ssp, sub_add_ofNat _ (by omega)] at read
  convert read using 4
  omega

end

/-! ## The entry (R87, R511, R512) -/

/-- The registers an interrupt entry loads, when its stack and its vector are there. -/
theorem takeInterrupt_ok {k : Nat} {pc : Word}
    (plain : ∀ j, j < 5 → PlainWord s (s.ssp - BitVec.ofNat 16 (2 * j)))
    (vector : codeReadWord s 0 (irqVector k) = .ok pc) :
    ∃ u, takeInterrupt s k = .ok u ∧ u.pc = pc ∧ u.csr = 0 ∧ u.psw = Config.irqEntryPsw s.dev s.psw k ∧
      u.ddFetch = Psw.dd u.psw := by
  have next {ws : List Word} {r : State} (h : Stacked ws s r) (few : ws.length ≤ 4) (v : Word) :=
    h.push_ok (few.trans (Nat.le_succ 4)) (plain _ (Nat.lt_succ_of_le few)) v
  obtain ⟨s1, pushPc, toPc⟩ := next (Stacked.nil s) (Nat.zero_le _) s.pc
  obtain ⟨s2, pushCsr, toCsr⟩ := toPc.pushCsrIfFar_ok (Nat.succ_le_succ (Nat.zero_le 4)) (plain 1 (by decide))
  have few : (csrWord s.farCode (zext s.csr) ++ [s.pc]).length ≤ 2 := by
    rw [List.length_append]
    exact Nat.succ_le_succ (csrWord_length_le _ _)
  obtain ⟨s3, pushA, toA⟩ := next toCsr (few.trans (by decide)) s2.a
  obtain ⟨s4, pushLrb, toLrb⟩ := next toA (Nat.succ_le_succ few |>.trans (by decide)) s3.lrb
  obtain ⟨s5, pushPsw, toPsw⟩ := next toLrb (Nat.succ_le_succ (Nat.succ_le_succ few)) s4.psw
  obtain ⟨data, rfl⟩ := toPsw.exists_data
  refine ⟨_, res_bind_ok.mpr ⟨_, pushPc, res_bind_ok.mpr ⟨_, pushCsr, res_bind_ok.mpr ⟨_, pushA, res_bind_ok.mpr
    ⟨_, pushLrb, res_bind_ok.mpr ⟨_, pushPsw, res_bind_ok.mpr ⟨pc, vector, rfl⟩⟩⟩⟩⟩⟩, rfl, ?_, rfl, rfl⟩
  exact BitVec.zero_and

theorem rtiFrame_reverse (far : Bool) (p l a c pc : Word) :
    (rtiFrame far p l a c pc).reverse = pc :: (csrWord far c ++ [a, l, p]) := by
  cases far <;> rfl

/-- Settles O53: the pushes complete and leave the words RTI pops, so each word stands where its turn puts it. -/
theorem interruptEntry : Obligations.InterruptEntry := by
  intro s k pc _ plain vector
  obtain ⟨u, taken, atPc, csr, psw, dd⟩ := takeInterrupt_ok plain vector
  obtain ⟨entered, cells⟩ := takeInterrupt_entered taken plain
  have pushed {j : Nat} {v : Word} (turn : (s.pc :: (csrWord s.farCode (zext s.csr) ++ [s.a, s.lrb, s.psw]))[j]? = some v) :
      memReadWord u 0 (s.ssp - BitVec.ofNat 16 (2 * j)) = .ok v :=
    entered.read ((rtiFrame_reverse _ _ _ _ _ _).symm ▸ turn)
  have ssp : u.ssp = s.ssp - BitVec.ofNat 16 (2 * if s.farCode then 5 else 4) := by
    rw [entered.state, rtiFrame_length]
  have a : u.a = s.a := by rw [entered.state]
  refine ⟨u, taken, atPc, csr, dd, psw, a, entered.keptRest, ?first, fun near => ?nearFrame, fun far => ?farFrame, cells⟩
  case first => exact (sub_no_words s.ssp) ▸ pushed (j := 0) rfl
  case nearFrame =>
    rw [near] at pushed ssp
    exact ⟨ssp, pushed (j := 1) rfl, pushed (j := 2) rfl, pushed (j := 3) rfl⟩
  case farFrame =>
    rw [far] at pushed ssp
    exact ⟨ssp, pushed (j := 1) rfl, pushed (j := 2) rfl, pushed (j := 3) rfl, pushed (j := 4) rfl⟩

/-! ## What is taken at a boundary (R66, R510, R513) -/

/-- An event offered alone, unless a reset, is taken if the core can take it. -/
theorem pickEvent_alone {e : Event} (noReset : Event.isReset e = false) :
    pickEvent s [e] = if acceptable s e then some e else none := by
  have unfound : [e].find? Event.isReset = none := by rw [List.find?_singleton, noReset]; rfl
  rw [pickEvent, unfound]
  exact List.find?_singleton ..

/-- A reset offered wins over every other event of the boundary (D22). -/
theorem pickEvent_reset {slot : List Event} (offered : .res ∈ slot ∨ .wdt ∈ slot) :
    pickEvent s slot = some .res ∨ pickEvent s slot = some .wdt := by
  have found : (slot.find? Event.isReset).isSome := by
    rw [List.find?_isSome]
    exact offered.elim (fun h => ⟨_, h, rfl⟩) fun h => ⟨_, h, rfl⟩
  obtain ⟨e, first⟩ := Option.isSome_iff_exists.mp found
  have taken : pickEvent s slot = some e := by rw [pickEvent, first]
  have reset := List.find?_some first
  cases e with
  | res => exact .inl taken
  | wdt => exact .inr taken
  | _ => cases reset

theorem acceptable_irq {k : Nat} :
    acceptable s (.irq k) = true ↔ Psw.mie s.psw = true ∧ 1 ≤ k ∧ k ≤ 32 ∧ k ∈ s.dev.irqSources := by
  simp only [acceptable, Bool.and_eq_true, decide_eq_true_iff, List.contains_iff_mem, and_assoc]

theorem acceptable_setModel {m : MemModel} :
    acceptable s (.setModel m) = true ↔ s.modelSet = false ∧ m ∈ s.dev.modelsPermitted := by
  simp only [acceptable, Bool.and_eq_true, Bool.not_eq_true', List.any_eq_true, beq_iff_eq, exists_eq_right]

theorem acceptable_busWrite {a : Nat} {v : Byte} :
    acceptable s (.busWrite a v) = true ↔ a < 0x1000000 ∧
      (if a ≤ 0x1FF then ∃ k, sfrAt s.dev a = .device k else inRanges s.dev.dataPresent a = true) := by
  rw [acceptable, Bool.and_eq_true, decide_eq_true_iff]
  refine and_congr_right fun _ => ?_
  split
  · cases sfrAt s.dev a <;> simp
  · rfl

/-- Settles O55: which events are taken, by what the core can take; a step that takes one delivers it. -/
theorem boundaryEvents : Obligations.BoundaryEvents := by
  refine fun s => ⟨fun k => (pickEvent_alone rfl).trans (if_congr acceptable_irq rfl rfl), rfl,
    fun slot => pickEvent_reset, fun m => (pickEvent_alone rfl).trans (if_congr acceptable_setModel rfl rfl),
    fun slot rest offers => ⟨fun k => step_event offers, step_event offers, fun m => step_event offers,
      fun a v picked => ⟨_, step_event offers picked, rfl, cell_putCell_self _ a v, fun b beside => ?cells⟩⟩,
    fun a v => ⟨fun there => ?taken, fun absent => ?refused⟩⟩
  case cells => exact cell_putCell_other (s.setInputs rest) v (List.ne_of_not_mem_cons beside)
  case taken => exact (pickEvent_alone rfl).trans (if_pos (acceptable_busWrite.mpr there))
  case refused => exact (pickEvent_alone rfl).trans (if_neg (mt acceptable_busWrite.mp absent))

end

end Sys2Proof.Machine
